-- ==== Sys2Proof/Word.lean ====
section
/-! DEFINITION. The words of the block: bytes, 16-bit payloads and 3-byte frames
(30_encoding.md R70, R73; 00_scope.md R6). -/

namespace Sys2Proof

/-- A byte is 8 bits (R6). -/
abbrev Byte := BitVec 8

/-- A payload or channel value, `u16` (R5 `VAL_W`, R73). -/
abbrev Half := BitVec 16

/-- A frame `[b0 b1 b2]`, `b0` first on the wire (R52, R70). -/
structure Frame where
  b0 : Byte
  b1 : Byte
  b2 : Byte
  deriving DecidableEq, Repr, Inhabited

/-- The frame read as the 24-bit word `F = b0, b1, b2`, `b0` most significant (R70). -/
def Frame.word (f : Frame) : BitVec 24 := f.b0 ++ f.b1 ++ f.b2

/-- The bytes of a frame in the order they are sent (R52). -/
def Frame.bytes (f : Frame) : List Byte := [f.b0, f.b1, f.b2]

end Sys2Proof
end

