-- ==== Sys2Proof/Syntax.lean ====
section
/-! DEFINITION. The closed enumerations of the block, its instructions (one constructor per row of
spec/opcode_table.json), and what may stand on the request port (30_encoding.md R71, R72, R80). -/

namespace Sys2Proof

/-- Reference source (10_state.md R25). -/
inductive RefMode | external | internal
  deriving DecidableEq, Repr, Inhabited

/-- Argument of `reset` (30_encoding.md R80). -/
inductive ResetMode | dacOnly | all
  deriving DecidableEq, Repr, Inhabited

/-- Target of `switch_power` (R80). -/
inductive PowerTarget | a | b | all
  deriving DecidableEq, Repr, Inhabited

/-- Power mode of a channel (10_state.md R22). -/
inductive PowerMode | on | powerDown1k | powerDown100k | powerDownHiZ
  deriving DecidableEq, Repr, Inhabited

/-- Gain of a channel (R23). -/
inductive Gain | x1 | x2
  deriving DecidableEq, Repr, Inhabited

/-- Latch mode of a channel (R24). -/
inductive Latch | async | sync
  deriving DecidableEq, Repr, Inhabited

/-- The two channels (00_scope.md R5 `N_CH`). -/
inductive Channel | a | b
  deriving DecidableEq, Repr, Inhabited

/-- The eight command kinds, in the order of 30_encoding.md R71. -/
inductive Kind
  | plainWrite | softwareUpdate | writeUpdateAll | writeUpdateTarget
  | powerControl | resetControl | latchControl | referenceControl
  deriving DecidableEq, Repr, Inhabited

/-- The four defined frame addresses (R72): channel A, channel B, the gain register, "all". -/
inductive Address | chA | chB | gain | all
  deriving DecidableEq, Repr, Inhabited

def RefMode.values : List RefMode := [.external, .internal]
def ResetMode.values : List ResetMode := [.dacOnly, .all]
def PowerTarget.values : List PowerTarget := [.a, .b, .all]
def PowerMode.values : List PowerMode := [.on, .powerDown1k, .powerDown100k, .powerDownHiZ]
def Gain.values : List Gain := [.x1, .x2]
def Latch.values : List Latch := [.async, .sync]
def Kind.values : List Kind :=
  [.plainWrite, .softwareUpdate, .writeUpdateAll, .writeUpdateTarget,
   .powerControl, .resetControl, .latchControl, .referenceControl]
def Address.values : List Address := [.chA, .chB, .gain, .all]

/-- The instructions: the eight frame kinds (40_encoder.md R101 to R108) and the eight requests
(R130 to R135, R180, R181), in the order of the opcode table. Every operand has a closed type, so
every term of `Instr` is spellable (30_encoding.md R80); what cannot be spelled never becomes one. -/
inductive Instr
  /-- `K_WRITE`, plain-write (R101). -/
  | kWrite (a : Address) (p : Half)
  /-- `K_SWUPD`, software-update (R102). -/
  | kSwupd (a : Address) (p : Half)
  /-- `K_WRUPDALL`, write-and-update-all (R103). -/
  | kWrupdAll (a : Address) (p : Half)
  /-- `K_WRUPD`, write-and-update-target (R104). -/
  | kWrupd (a : Address) (p : Half)
  /-- `K_POWER`, power-control (R105). -/
  | kPower (a : Address) (p : Half)
  /-- `K_RESET`, reset (R106). -/
  | kReset (a : Address) (p : Half)
  /-- `K_LATCH`, latch-control (R107). -/
  | kLatch (a : Address) (p : Half)
  /-- `K_REF`, reference-control (R108). -/
  | kRef (a : Address) (p : Half)
  /-- `initialize mode` (R130). -/
  | initDevice (mode : RefMode)
  /-- `reset mode` (R131). -/
  | reset (mode : ResetMode)
  /-- `switch_reference mode` (R132). -/
  | switchReference (mode : RefMode)
  /-- `switch_power target, mode` (R133). -/
  | switchPower (target : PowerTarget) (mode : PowerMode)
  /-- `switch_gain gain_a, gain_b` (R134). -/
  | switchGain (gainA gainB : Gain)
  /-- `switch_latch_mode latch_a, latch_b` (R135). -/
  | switchLatchMode (latchA latchB : Latch)
  /-- `pulse_latch` (R180). -/
  | pulseLatch
  /-- `write kind, address, value` (R181). -/
  | write (kind : Kind) (address : Address) (value : Half)
  deriving DecidableEq, Repr

/-- The frame row of the opcode table for a command kind (R71). -/
def frameInstr : Kind → Address → Half → Instr
  | .plainWrite => .kWrite
  | .softwareUpdate => .kSwupd
  | .writeUpdateAll => .kWrupdAll
  | .writeUpdateTarget => .kWrupd
  | .powerControl => .kPower
  | .resetControl => .kReset
  | .latchControl => .kLatch
  | .referenceControl => .kRef

/-- A request record as the caller spells it: an operation and numeric arguments, which need not lie
in the closed types of R80 (60_exceptions.md R206 refuses those that do not). An argument is spelled by
the code the spec gives its value (R71, R72, R74). DESIGN CHOICE (log 5): the numeric spelling. -/
inductive RawRequest
  | initDevice (mode : Nat)
  | reset (mode : Nat)
  | switchReference (mode : Nat)
  | switchPower (target mode : Nat)
  | switchGain (gainA gainB : Nat)
  | switchLatchMode (latchA latchB : Nat)
  | pulseLatch
  | write (kind address value : Nat)
  /-- an operation, or an enumeration value's name, that the source does not list -/
  | unlisted
  deriving DecidableEq, Repr

/-- What the caller presents for execution: a request record (R80), or a frame row of the opcode table
as the bytes of its frame (R70). DESIGN CHOICE (log 3): a frame presented by itself. -/
inductive PortItem
  | request (r : RawRequest)
  | frame (bytes : List Byte)
  deriving DecidableEq, Repr

/-- A field of the register file, as the state read port names it (10_state.md R32, R36). -/
inductive Field
  | ref
  | value (c : Channel)
  | pwr (c : Channel)
  | gain (c : Channel)
  | latch (c : Channel)
  deriving DecidableEq, Repr

/-- Every field of the register file (R32). -/
def Field.values : List Field :=
  [.ref, .value .a, .pwr .a, .gain .a, .latch .a, .value .b, .pwr .b, .gain .b, .latch .b]

/-- What a read of the state port asks for: every field, or one (R36, vectors V-Q1 to V-Q3). -/
inductive ReadSel | all | one (f : Field)
  deriving DecidableEq, Repr

/-- One input of the block: something presented for execution, or a read of the state port (R30, R36). -/
inductive Input
  | present (item : PortItem)
  | read (sel : ReadSel)
  deriving DecidableEq, Repr

end Sys2Proof
end

