-- ==== Sys2Proof/Config.lean ====
section
/-! DEFINITION. What the spec takes as a parameter (00_scope.md R5), and the values it leaves to the
environment (40_encoder.md R109, 20_memory.md R53). -/

namespace Sys2Proof

/-- `N_CH`, `VAL_W` and `FRAME_LEN` of R5. -/
def Config.numChannels : Nat := 2
def Config.valueWidth : Nat := 16
def Config.frameLen : Nat := 3

/-- The configuration fields of 00_scope.md R5 whose defaults are the spec's decisions D3 to D11. Every
definition that depends on a code takes the table as an argument, whose default is `Machine.codes`. -/
structure CodeTable where
  /-- `KIND_CODE`, pre-shifted (D3, R71) -/
  kind : Kind → Byte
  /-- `ADDR_CODE` (D4, R72) -/
  addr : Address → BitVec 3
  /-- `RST_CODE` (D5) -/
  rst : ResetMode → Half
  /-- `REF_CODE` (D6) -/
  ref : RefMode → Half
  /-- `PWR_TGT_CODE` (D7) -/
  pwrTarget : PowerTarget → Half
  /-- `PWR_MODE_CODE` (D8) -/
  pwrMode : PowerMode → Half
  /-- `GAIN_CODE(ch, g)` (D9) -/
  gain : Channel → Gain → Half
  /-- `LATCH_CODE(ch, l)` (D10) -/
  latch : Channel → Latch → Half
  /-- `ADDR_RESET` (D11) -/
  addrReset : Address
  /-- `ADDR_POWER` (D11) -/
  addrPower : Address
  /-- `ADDR_REF` (D11) -/
  addrRef : Address

/-- The transport's answer to a `Tx`: `Ok`, `Fail`, or no answer ever (R109, 60_exceptions.md R207). -/
inductive Answer | ok | fail | never
  deriving DecidableEq, Repr, Inhabited

/-- The answer of the transport of instance number `unit` to its draw number `n`, for the draws no state
fixes in advance: a free value, nothing is known of it (R8 "a draw supplied by the environment", U8, U9,
10_state.md R38; log 1, log 16). -/
opaque Config.transportAnswer : (unit n : Nat) → Answer

/-- An order of the bits of a byte on the serial line. R53 (20_memory.md, D20) leaves the order wholly open;
that it is one of these two, most or least significant bit first, is the model's own narrowing.
DESIGN CHOICE (log 13). Unsafe for a claim about a transport with another order. -/
inductive BitOrder | msbFirst | lsbFirst
  deriving DecidableEq, Repr, Inhabited

/-- `WIRE_BIT_ORDER` of the transport of instance number `unit`, OPEN (R5, R53, D20): left without a value
(log 13). -/
opaque Config.wireBitOrder : (unit : Nat) → BitOrder

end Sys2Proof
end

