-- ==== Sys2Proof/Machine/Codes.lean ====
section
/-! DEFINITION. The default code tables of 30_encoding.md R71, R72 and R74 (decisions D3 to D11), and
reading a code back. -/

namespace Sys2Proof.Machine

/-- The codes of R71, R72 and R74 and the addresses of D11, the defaults of R5.
UNVERIFIED (log 6): D5 to D11 come from general knowledge of the chip, by the spec's own account. -/
def codes : CodeTable where
  kind
    | .plainWrite => 0x00#8
    | .softwareUpdate => 0x08#8
    | .writeUpdateAll => 0x10#8
    | .writeUpdateTarget => 0x18#8
    | .powerControl => 0x20#8
    | .resetControl => 0x28#8
    | .latchControl => 0x30#8
    | .referenceControl => 0x38#8
  addr
    | .chA => 0#3
    | .chB => 1#3
    | .gain => 2#3
    | .all => 7#3
  rst
    | .dacOnly => 0x0000#16
    | .all => 0x0001#16
  ref
    | .external => 0x0000#16
    | .internal => 0x0001#16
  pwrTarget
    | .a => 0x0001#16
    | .b => 0x0002#16
    | .all => 0x0003#16
  pwrMode
    | .on => 0x0000#16
    | .powerDown1k => 0x0010#16
    | .powerDown100k => 0x0020#16
    | .powerDownHiZ => 0x0030#16
  gain
    | .a, .x1 => 0x0001#16
    | .a, .x2 => 0x0000#16
    | .b, .x1 => 0x0002#16
    | .b, .x2 => 0x0000#16
  latch
    | .a, .async => 0x0000#16
    | .a, .sync => 0x0001#16
    | .b, .async => 0x0000#16
    | .b, .sync => 0x0002#16
  addrReset := .all
  addrPower := .all
  addrRef := .all

/-- The value of an enumeration whose code is `n`, if one has it. -/
def ofCode {α : Type} (values : List α) (code : α → Nat) (n : Nat) : Option α :=
  values.find? fun x => code x == n

def kindOfCode (ct : CodeTable) (n : Nat) : Option Kind :=
  ofCode Kind.values (fun k => (ct.kind k).toNat) n
def addressOfCode (ct : CodeTable) (n : Nat) : Option Address :=
  ofCode Address.values (fun a => (ct.addr a).toNat) n
def resetModeOfCode (ct : CodeTable) (n : Nat) : Option ResetMode :=
  ofCode ResetMode.values (fun m => (ct.rst m).toNat) n
def refModeOfCode (ct : CodeTable) (n : Nat) : Option RefMode :=
  ofCode RefMode.values (fun m => (ct.ref m).toNat) n
def powerTargetOfCode (ct : CodeTable) (n : Nat) : Option PowerTarget :=
  ofCode PowerTarget.values (fun t => (ct.pwrTarget t).toNat) n
def powerModeOfCode (ct : CodeTable) (n : Nat) : Option PowerMode :=
  ofCode PowerMode.values (fun m => (ct.pwrMode m).toNat) n
def gainOfCode (ct : CodeTable) (c : Channel) (n : Nat) : Option Gain :=
  ofCode Gain.values (fun g => (ct.gain c g).toNat) n
def latchOfCode (ct : CodeTable) (c : Channel) (n : Nat) : Option Latch :=
  ofCode Latch.values (fun l => (ct.latch c l).toNat) n

end Sys2Proof.Machine
end

