-- ==== Sys2Proof/Machine/Operands.lean ====
section
/-! DEFINITION. Payload assembly (30_encoding.md R73), the encoder function (40_encoder.md R100), the
fields of a frame (R79), and the frame as it leaves on the serial line (20_memory.md R52, R53). -/

namespace Sys2Proof.Machine

/-- `PWR_TGT_CODE(target) | PWR_MODE_CODE(mode)` (R73). -/
def powerPayload (ct : CodeTable) (t : PowerTarget) (m : PowerMode) : Half := ct.pwrTarget t ||| ct.pwrMode m

/-- `GAIN_CODE(A, gain_a) | GAIN_CODE(B, gain_b)` (R73). -/
def gainPayload (ct : CodeTable) (ga gb : Gain) : Half := ct.gain .a ga ||| ct.gain .b gb

/-- `LATCH_CODE(A, latch_a) | LATCH_CODE(B, latch_b)` (R73). -/
def latchPayload (ct : CodeTable) (la lb : Latch) : Half := ct.latch .a la ||| ct.latch .b lb

/-- `Encode(k, a, p)`, the command encoder (R100). -/
def encodeFrame (ct : CodeTable) (k : Kind) (a : Address) (p : Half) : Frame where
  b0 := ct.kind k ||| (ct.addr a).setWidth 8
  b1 := p.extractLsb' 8 8
  b2 := p.extractLsb' 0 8

/-- `b0[7:6]`, 0 in every frame of the block (R70, R77 item 2). -/
def frameTop (f : Frame) : BitVec 2 := f.b0.extractLsb' 6 2

/-- `kind code = b0 & 0x38` (R79). -/
def frameKindCode (f : Frame) : Byte := f.b0 &&& 0x38#8

/-- `A = b0[2:0]` (R79). -/
def frameAddrCode (f : Frame) : BitVec 3 := f.b0.extractLsb' 0 3

/-- `payload = b1, b2` (R79). -/
def framePayload (f : Frame) : Half := f.b1 ++ f.b2

/-- The channels a power target names (R133 `chans`). -/
def targets : PowerTarget → Channel → Bool
  | .a, .a => true
  | .a, .b => false
  | .b, .a => false
  | .b, .b => true
  | .all, .a => true
  | .all, .b => true

/-- The bits of one byte in the order the transport sends them: the open parameter of R53, here one of two
orders (DESIGN CHOICE, log 13). -/
def wireBits (o : BitOrder) (b : Byte) : List Bool :=
  let msb := [b.getLsbD 7, b.getLsbD 6, b.getLsbD 5, b.getLsbD 4,
              b.getLsbD 3, b.getLsbD 2, b.getLsbD 1, b.getLsbD 0]
  match o with
  | .msbFirst => msb
  | .lsbFirst => msb.reverse

/-- A frame on the serial line: byte 0, byte 1, byte 2 (R52), each in the transport's bit order, the
parameter `WIRE_BIT_ORDER` (R53). -/
def serialBits (o : BitOrder) (f : Frame) : List Bool := f.bytes.flatMap (wireBits o)

end Sys2Proof.Machine
end

