-- ==== Sys2Proof/Decode.lean ====
section
/-! DEFINITION. The decoder, total on every presented item and rejecting by name (30_encoding.md R77,
R79, R80; 60_exceptions.md R206), the encoder of an instruction, and the reading of an opcode-table word. -/

namespace Sys2Proof

open Machine

/-- Why an item cannot be spelled (R77, R206). -/
inductive DecodeError
  /-- a frame is not exactly three bytes (R54, R78) -/
  | frameLength
  /-- `b0[7:6]` is not 0 (R77 item 2) -/
  | topBits
  /-- an address code 0x3 to 0x6, or wider than 3 bits (R77 item 1) -/
  | reservedAddress
  /-- a kind code off the grid of R71 -/
  | kindCode
  /-- a value wider than 16 bits -/
  | wideValue
  /-- a power target naming no channel -/
  | noTarget
  /-- an enumeration value the source does not list -/
  | unlistedValue
  /-- an operation the source does not list -/
  | unlistedRequest
  deriving DecidableEq, Repr

/-- `x`, or the refusal `e`. -/
def need {α : Type} (x : Option α) (e : DecodeError) : Except DecodeError α :=
  match x with
  | some v => .ok v
  | none => .error e

/-- A `u16` argument (R80). -/
def halfOfNat (n : Nat) : Option Half := if n < 2 ^ 16 then some (BitVec.ofNat 16 n) else none

/-- Decoding a frame inverts R70: kind code, address, payload (R79). -/
def decodeFields (ct : CodeTable) (f : Frame) : Except DecodeError (Kind × Address × Half) :=
  if frameTop f ≠ 0#2 then .error .topBits
  else do
    let k ← need (kindOfCode ct (frameKindCode f).toNat) .kindCode
    let a ← need (addressOfCode ct (frameAddrCode f).toNat) .reservedAddress
    .ok (k, a, framePayload f)

/-- The frame row a frame is an instance of (R71, R79). -/
def decodeFrame (ct : CodeTable) (f : Frame) : Except DecodeError Instr := do
  let (k, a, p) ← decodeFields ct f
  .ok (frameInstr k a p)

/-- Decoding a sequence of bytes as one frame: exactly three bytes (R54, R78). -/
def decodeBytes (ct : CodeTable) : List Byte → Except DecodeError Instr
  | [b0, b1, b2] => decodeFrame ct ⟨b0, b1, b2⟩
  | _ => .error .frameLength

/-- The request a record spells, or the refusal of R206. -/
def decodeRequest (ct : CodeTable) : RawRequest → Except DecodeError Instr
  | .initDevice m => do
    let m ← need (refModeOfCode ct m) .unlistedValue
    .ok (.initDevice m)
  | .reset m => do
    let m ← need (resetModeOfCode ct m) .unlistedValue
    .ok (.reset m)
  | .switchReference m => do
    let m ← need (refModeOfCode ct m) .unlistedValue
    .ok (.switchReference m)
  | .switchPower t m => do
    let t ← need (powerTargetOfCode ct t) .noTarget
    let m ← need (powerModeOfCode ct m) .unlistedValue
    .ok (.switchPower t m)
  | .switchGain ga gb => do
    let ga ← need (gainOfCode ct .a ga) .unlistedValue
    let gb ← need (gainOfCode ct .b gb) .unlistedValue
    .ok (.switchGain ga gb)
  | .switchLatchMode la lb => do
    let la ← need (latchOfCode ct .a la) .unlistedValue
    let lb ← need (latchOfCode ct .b lb) .unlistedValue
    .ok (.switchLatchMode la lb)
  | .pulseLatch => .ok .pulseLatch
  | .write k a v => do
    let k ← need (kindOfCode ct k) .kindCode
    let a ← need (addressOfCode ct a) .reservedAddress
    let v ← need (halfOfNat v) .wideValue
    .ok (.write k a v)
  | .unlisted => .error .unlistedRequest

/-- The decoder: any item at all, an instruction or a refusal by name. -/
def decode (ct : CodeTable) : PortItem → Except DecodeError Instr
  | .request r => decodeRequest ct r
  | .frame bytes => decodeBytes ct bytes

/-- The encoder of an instruction: a frame row is its frame (R100 to R108), a request is its record
(R80) with its arguments spelled by their codes (R71, R72, R74). -/
def encode (ct : CodeTable) : Instr → PortItem
  | .kWrite a p => .frame (encodeFrame ct .plainWrite a p).bytes
  | .kSwupd a p => .frame (encodeFrame ct .softwareUpdate a p).bytes
  | .kWrupdAll a p => .frame (encodeFrame ct .writeUpdateAll a p).bytes
  | .kWrupd a p => .frame (encodeFrame ct .writeUpdateTarget a p).bytes
  | .kPower a p => .frame (encodeFrame ct .powerControl a p).bytes
  | .kReset a p => .frame (encodeFrame ct .resetControl a p).bytes
  | .kLatch a p => .frame (encodeFrame ct .latchControl a p).bytes
  | .kRef a p => .frame (encodeFrame ct .referenceControl a p).bytes
  | .initDevice m => .request (.initDevice (ct.ref m).toNat)
  | .reset m => .request (.reset (ct.rst m).toNat)
  | .switchReference m => .request (.switchReference (ct.ref m).toNat)
  | .switchPower t m => .request (.switchPower (ct.pwrTarget t).toNat (ct.pwrMode m).toNat)
  | .switchGain ga gb => .request (.switchGain (ct.gain .a ga).toNat (ct.gain .b gb).toNat)
  | .switchLatchMode la lb => .request (.switchLatchMode (ct.latch .a la).toNat (ct.latch .b lb).toNat)
  | .pulseLatch => .request .pulseLatch
  | .write k a v => .request (.write (ct.kind k).toNat (ct.addr a).toNat v.toNat)

/-- The configuration request whose first frame (30_encoding.md R76) is exactly this frame. Two
requests begin with the frame of `reset All`; the table's row with more fixed bits is `initialize`, whose
mode is in no bit of the word and is taken as External. DESIGN CHOICE (log 4). -/
def requestOfFrame (ct : CodeTable) (k : Kind) (a : Address) (p : Half) : Option Instr :=
  match k with
  | .resetControl =>
    if a = ct.addrReset then
      if p = ct.rst .all then some (.initDevice .external)
      else (resetModeOfCode ct p.toNat).map .reset
    else none
  | .referenceControl =>
    if a = ct.addrRef then (refModeOfCode ct p.toNat).map .switchReference else none
  | .powerControl =>
    if a = ct.addrPower then
      (PowerTarget.values.flatMap fun t => PowerMode.values.map fun m => (t, m)).find?
        (fun tm => powerPayload ct tm.1 tm.2 == p) |>.map fun tm => .switchPower tm.1 tm.2
    else none
  | .plainWrite =>
    if a = .gain then
      (Gain.values.flatMap fun ga => Gain.values.map fun gb => (ga, gb)).find?
        (fun g => gainPayload ct g.1 g.2 == p) |>.map fun g => .switchGain g.1 g.2
    else none
  | .latchControl =>
    if a = .all then
      (Latch.values.flatMap fun la => Latch.values.map fun lb => (la, lb)).find?
        (fun l => latchPayload ct l.1 l.2 == p) |>.map fun l => .switchLatchMode l.1 l.2
    else none
  | .softwareUpdate => none
  | .writeUpdateAll => none
  | .writeUpdateTarget => none

/-- The frame a 24-bit word of the opcode table is: `F[23:16]` is byte 0 (R70). -/
def frameOfWord (w : Nat) : Frame :=
  ⟨BitVec.ofNat 8 (w / 65536), BitVec.ofNat 8 (w / 256), BitVec.ofNat 8 w⟩

/-- What an opcode-table word of `nbits` bits stands for on the request port: the row with the most
fixed bits whose pattern it has. The one row without a word is `pulse_latch` (`nbits = 0`). A word with
a bit above bit 23 is no frame. DESIGN CHOICE (log 4): R80 gives requests no binary encoding. -/
def tableItem (ct : CodeTable) (nbits w : Nat) : PortItem :=
  if nbits = 0 then encode ct .pulseLatch
  else if w < 2 ^ 24 then
    match decodeFields ct (frameOfWord w) with
    | .ok (k, a, p) =>
      match requestOfFrame ct k a p with
      | some i => encode ct i
      | none => .frame (frameOfWord w).bytes
    | .error _ => .frame (frameOfWord w).bytes
  else .request .unlisted

/-- The instruction the decoder reads from an opcode-table word (log 4). -/
def decodeTableWord (nbits w : Nat) : Option Instr :=
  match decode codes (tableItem codes nbits w) with
  | .ok i => some i
  | .error _ => none

end Sys2Proof
end

