-- ==== Sys2Proof/Machine/State.lean ====
section
/-! DEFINITION. The state of one block instance (10_state.md R20), what a step can end in, and the
machine at power-up (70_reset_and_hazards.md R230). `none` in a register or line is the spec's own
value ⊥, "never written" (R26, R28). -/

namespace Sys2Proof.Machine

/-- One channel control register (R20 to R24). -/
structure ChannelRegs where
  value : Option Half
  pwr : Option PowerMode
  gain : Option Gain
  latch : Option Latch
  deriving DecidableEq, Repr

/-- The device-state register file: `S.ref`, `S.ch[A]`, `S.ch[B]` (R20, R32). -/
structure RegFile where
  ref : Option RefMode
  chA : ChannelRegs
  chB : ChannelRegs
  deriving DecidableEq, Repr

/-- The level of an output line (R28): `low` is 0, `high` is 1. -/
inductive Level | low | high
  deriving DecidableEq, Repr

/-- The output lines, each at the level last driven (R28). -/
structure Lines where
  selN : Option Level
  rst : Option Level
  ldac : Option Level
  deriving DecidableEq, Repr

/-- The two output pins besides chip select (00_scope.md R8). -/
inductive Pin | rst | ldac
  deriving DecidableEq, Repr

/-- An event on the block's interfaces (00_scope.md R9). A transmit carries its answer. -/
inductive Event
  | selLow
  | selHigh
  | pinSet (l : Pin)
  | pinClear (l : Pin)
  | tx (f : Frame) (r : Answer)
  deriving DecidableEq, Repr

/-- The response of a completed request (60_exceptions.md R200). -/
inductive Response | ok | transportFailure
  deriving DecidableEq, Repr

/-- The sticky mark of a fault or a refusal (R29, R205, R206). -/
inductive Mark | notBound | unwritten | refused
  deriving DecidableEq, Repr

/-- What the state read port returns for one field (R36). -/
inductive FieldValue
  | ref (m : RefMode)
  | value (v : Half)
  | pwr (m : PowerMode)
  | gain (g : Gain)
  | latch (l : Latch)
  deriving DecidableEq, Repr

/-- The state: the spec's own fields (R20), then the transfer in progress and the program position, then
the model's own inputs and observations, and the number of the instance (log 1, 2, 10, 16). -/
structure State where
  /-- `S.ref` and `S.ch` -/
  regs : RegFile
  /-- `S.bound` (R27) -/
  bound : Bool
  /-- `S.line` (R28) -/
  line : Lines
  /-- `S.fault` (R29) -/
  fault : Option Mark
  /-- the frame of a transmit that is never answered (60_exceptions.md R207) -/
  waiting : Option Frame
  /-- the program position (R30) -/
  pos : Nat
  /-- the caller's inputs still to come, oldest first (R30, R36) -/
  inputs : List Input
  /-- answers fixed in advance for the next transmits (40_encoder.md R109) -/
  answers : List Answer
  /-- how many answers have been drawn -/
  drawn : Nat
  /-- the events emitted so far, oldest first (R9) -/
  trace : List Event
  /-- the responses given so far, oldest first (R200) -/
  responses : List Response
  /-- what the state read port has returned so far, oldest first (R36) -/
  readings : List (List FieldValue)
  /-- the number of this instance, which names its own collaborators (R27, R38): configuration, which no
  step changes (log 16) -/
  unit : Nat
  deriving DecidableEq, Repr

/-- Why the machine stops. -/
inductive Fault
  /-- raised by every step of a state whose `S.fault` is set: such a state takes no further step (R29). Safe. -/
  | marked (m : Mark)
  /-- raised by every step of a state stuck in a transmit that is never answered (R207). Safe. -/
  | stuck
  deriving DecidableEq, Repr

/-- What has no meaning. -/
inductive Refusal
  /-- raised by an arm of `exec` without a meaning; no arm is left so. Safe. -/
  | notModelled (mnemonic : String)
  /-- raised by a step when the caller has presented nothing more: the program is a finite list and it
  has ended (R30, R4; log 2). Safe. -/
  | noInput
  deriving DecidableEq, Repr

/-- A channel control register no rule has written yet (R26). -/
def ChannelRegs.unwritten : ChannelRegs := ⟨none, none, none, none⟩

/-- The register file at power-up (R230). -/
def RegFile.unwritten : RegFile := ⟨none, .unwritten, .unwritten⟩

/-- The lines before the block first drives them (R28, R230). -/
def Lines.undriven : Lines := ⟨none, none, none⟩

/-- The machine at power-up (R230). The inputs and observations are empty and
the instance is number 0: DESIGN CHOICE (log 1, 2, 10, 16). -/
def State.reset : State where
  regs := .unwritten
  bound := false
  line := .undriven
  fault := none
  waiting := none
  pos := 0
  inputs := []
  answers := []
  drawn := 0
  trace := []
  responses := []
  readings := []
  unit := 0

/-- Instance number `n` at power-up (R230, R38). -/
def State.powerUp (n : Nat) : State := { State.reset with unit := n }

end Sys2Proof.Machine
end

