-- ==== Sys2Proof/Machine/Flags.lean ====
section
/-! DEFINITION. The conditions the rules compute. The block has no status flags and no condition codes
(10_state.md R31); these are the gain default of I1 (R33) and the conditions of I2 (R22, R34). -/

namespace Sys2Proof.Machine

/-- `gain_default` (R33). -/
def gainDefault : RefMode → Gain
  | .internal => .x2
  | .external => .x1

/-- A channel is non-On when its power mode is any value other than `On` (R22). -/
def nonOn (m : PowerMode) : Bool := m != .on

/-- Both channels non-On (R133 `all_off`). -/
def allOff (pa pb : PowerMode) : Bool := nonOn pa && nonOn pb

/-- The I2 re-send is due (R133 `resend`). -/
def resendDue (off : Bool) (ref : RefMode) : Bool := off && ref == .internal

end Sys2Proof.Machine
end

