-- ==== Sys2Proof/Machine/Ops.lean ====
section
/-! DEFINITION. The primitives of 00_scope.md R8, the frame transaction (40_encoder.md R109), the ways a
request ends (60_exceptions.md R200 to R207, R210), and the writes of the register file. -/

namespace Sys2Proof.Machine

/-! Events -/

/-- `SelLow()` (R8): chip select asserted. -/
def State.selLow (s : State) : State :=
  { s with line := { s.line with selN := some .low }, trace := s.trace ++ [.selLow] }

/-- `SelHigh()` (R8): chip select deasserted. -/
def State.selHigh (s : State) : State :=
  { s with line := { s.line with selN := some .high }, trace := s.trace ++ [.selHigh] }

/-- A pin at a level. -/
def Lines.drive (l : Lines) : Pin → Level → Lines
  | .rst, v => { l with rst := some v }
  | .ldac, v => { l with ldac := some v }

/-- `PinSet(L)` (R8). -/
def State.pinSet (p : Pin) (s : State) : State :=
  { s with line := s.line.drive p .high, trace := s.trace ++ [.pinSet p] }

/-- `PinClear(L)` (R8). -/
def State.pinClear (p : Pin) (s : State) : State :=
  { s with line := s.line.drive p .low, trace := s.trace ++ [.pinClear p] }

/-- The transport's answer to the next transmit: the next one fixed in advance, else the free value of
this instance's own transport (R109, 10_state.md R38; log 1). -/
def State.nextAnswer (s : State) : Answer :=
  match s.answers with
  | r :: _ => r
  | [] => Config.transportAnswer s.unit s.drawn

/-- One answer has been drawn. -/
def State.drawAnswer (s : State) : State :=
  { s with answers := s.answers.tail, drawn := s.drawn + 1 }

/-- `Tx(f)` (R8): the event with its answer. A transmit that is never answered leaves the block
waiting inside it (60_exceptions.md R207). -/
def State.transmit (f : Frame) (s : State) : State :=
  { s.drawAnswer with
    trace := s.trace ++ [.tx f s.nextAnswer]
    waiting := if s.nextAnswer = .never then some f else s.waiting }

/-- The bits a frame puts on this instance's serial line (20_memory.md R52, R53). -/
def State.lineBits (f : Frame) (s : State) : List Bool := serialBits (Config.wireBitOrder s.unit) f

/-! The ways the pseudocode of a request ends -/

/-- How a piece of a request's pseudocode ends (60_exceptions.md R209). -/
inductive Ended
  /-- it ran to its end -/
  | ok (s : State)
  /-- it raised `TransportFailure`: the rest is abandoned, what was done stays (R202) -/
  | failed (s : State)
  /-- it raised `Fault(m)` (R205) -/
  | faulted (m : Mark) (s : State)
  /-- a transmit is never answered (R207) -/
  | stuck (s : State)
  deriving DecidableEq, Repr

/-- Sequencing: what follows runs only if what came before ended normally (R202, R204). -/
def Ended.andThen (e : Ended) (k : State → Ended) : Ended :=
  match e with
  | .ok s => k s
  | .failed s => .failed s
  | .faulted m s => .faulted m s
  | .stuck s => .stuck s

/-- `SendFrame(k, a, p)` (R109): one frame inside its select bracket. -/
def sendFrame (ct : CodeTable) (k : Kind) (a : Address) (p : Half) (s : State) : Ended :=
  let f := encodeFrame ct k a p
  let low := s.selLow
  let sent := low.transmit f
  match low.nextAnswer with
  | .ok => .ok sent.selHigh
  | .fail => .failed sent.selHigh
  | .never => .stuck sent

/-- `if not S.bound: raise Fault(NotBound)` (R27, R205). -/
def requireBound (s : State) (k : State → Ended) : Ended :=
  if s.bound then k s else .faulted .notBound s

/-- `raise Fault(reason)`, and a refusal: the sticky mark, and nothing else (R205, R206, R210). -/
def State.mark (m : Mark) (s : State) : State := { s with fault := some m }

/-- The response goes to the caller (R200). -/
def State.respond (r : Response) (s : State) : State := { s with responses := s.responses ++ [r] }

/-- The state a request leaves, however it ends: THE one operation of taking an error (R200, R202, R205,
R207, R210). There is no handler and so no return from one (R211). -/
def Ended.settle : Ended → State
  | .ok s => s.respond .ok
  | .failed s => s.respond .transportFailure
  | .faulted m s => s.mark m
  | .stuck s => s

/-- The block takes steps: no mark is set (R29) and no transmit is unanswered (R207). -/
def State.running (s : State) : Bool := s.fault.isNone && s.waiting.isNone

/-- Runs the pseudocode of one instruction as one atomic step (R4). A marked state takes no step (R29),
nor does a stuck one (R207). -/
def runRequest (body : State → Ended) (s : State) : Host.Outcome State Fault Refusal :=
  match s.fault with
  | some m => .fault (.marked m)
  | none =>
    match s.waiting with
    | some _ => .fault .stuck
    | none => .next (body s).settle

/-- The input just completed is done, and the program position advances by one. A faulted, refused or
stuck request does not advance it (R30; log 12). -/
def State.retire (s : State) : State :=
  if s.running then { s with inputs := s.inputs.tail, pos := s.pos + 1 } else s

/-! Writes of the register file -/

/-- A write of the register file. -/
def State.mapRegs (f : RegFile → RegFile) (s : State) : State := { s with regs := f s.regs }

/-- `S.bound <- true` (R27, R130). -/
def State.bind (s : State) : State := { s with bound := true }

def RegFile.ch (r : RegFile) : Channel → ChannelRegs
  | .a => r.chA
  | .b => r.chB

/-- A write of both channel registers. -/
def RegFile.mapCh (f : Channel → ChannelRegs → ChannelRegs) (r : RegFile) : RegFile :=
  { r with chA := f .a r.chA, chB := f .b r.chB }

/-- Step 1 of `initialize`: both channels On with value 0 (R130). -/
def RegFile.powerOn (r : RegFile) : RegFile :=
  r.mapCh fun _ c => { c with pwr := some .on, value := some 0#16 }

/-- The commit of `reset` (R131, I3). -/
def RegFile.afterReset (m : ResetMode) (r : RegFile) : RegFile :=
  let zeroed := r.mapCh fun _ c => { c with value := some 0#16 }
  match m with
  | .dacOnly => zeroed
  | .all =>
    { zeroed with ref := some .external }.mapCh fun _ c =>
      { c with gain := some .x1, latch := some .async }

/-- `S.ch[A].gain <- ga`, `S.ch[B].gain <- gb` (R134). -/
def RegFile.setGains (ga gb : Gain) (r : RegFile) : RegFile :=
  { r with chA := { r.chA with gain := some ga }, chB := { r.chB with gain := some gb } }

/-- `S.ch[A].latch <- la`, `S.ch[B].latch <- lb` (R135). -/
def RegFile.setLatches (la lb : Latch) (r : RegFile) : RegFile :=
  { r with chA := { r.chA with latch := some la }, chB := { r.chB with latch := some lb } }

/-- `S.ref <- m` (R132). -/
def RegFile.setRef (m : RefMode) (r : RegFile) : RegFile := { r with ref := some m }

/-- `for c in chans: S.ch[c].pwr <- m` (R133). -/
def RegFile.setPower (t : PowerTarget) (m : PowerMode) (r : RegFile) : RegFile :=
  r.mapCh fun c x => if targets t c then { x with pwr := some m } else x

end Sys2Proof.Machine
end

