-- ==== Sys2Proof/Machine/ConfigRequests.lean ====
section
/-! DEFINITION. The configuration requests (41_config_ops.md R130 to R135). Each body is the rule's
pseudocode; the register file is written only after the frame that carries the write was sent
(60_exceptions.md R203). -/

namespace Sys2Proof.Machine

/-- The pseudocode of `reset` (R131). The order of its first three events is decision D24. -/
def resetBody (ct : CodeTable) (mode : ResetMode) (s : State) : Ended :=
  requireBound s fun s =>
    (sendFrame ct .resetControl ct.addrReset (ct.rst mode)
      (((s.pinSet .rst).pinSet .ldac).selHigh)).andThen fun s =>
    .ok (s.mapRegs (RegFile.afterReset mode))

/-- The pseudocode of `switch_reference` (R132, I1). -/
def switchReferenceBody (ct : CodeTable) (mode : RefMode) (s : State) : Ended :=
  requireBound s fun s =>
    (sendFrame ct .referenceControl ct.addrRef (ct.ref mode) s).andThen fun s =>
    .ok (s.mapRegs fun r => (r.setRef mode).setGains (gainDefault mode) (gainDefault mode))

/-- The pseudocode of `initialize` (R130): three steps, each committing on its own (60_exceptions.md R204). -/
def initializeBody (ct : CodeTable) (mode : RefMode) (s : State) : Ended :=
  (resetBody ct .all (s.bind.mapRegs RegFile.powerOn)).andThen fun s =>
    switchReferenceBody ct mode s

/-- `new_pwr[c]` (R133): `none` when it would read ⊥. -/
def newPower (t : PowerTarget) (m : PowerMode) (r : RegFile) (c : Channel) : Option PowerMode :=
  if targets t c then some m else (r.ch c).pwr

/-- `resend` (R133): the I2 condition on the power modes after the request; `S.ref` is read only when
both channels would be non-On (D32). `none` when a field it reads holds ⊥. -/
def resendNeeded (t : PowerTarget) (m : PowerMode) (r : RegFile) : Option Bool :=
  match newPower t m r .a, newPower t m r .b with
  | some pa, some pb => if allOff pa pb then r.ref.map (resendDue true) else some false
  | _, _ => none

/-- The pseudocode of `switch_power` (R133, I2): the power frame and its commit (D14), then the
re-send when it is due (D15). -/
def switchPowerBody (ct : CodeTable) (t : PowerTarget) (m : PowerMode) (s : State) : Ended :=
  requireBound s fun s =>
    match resendNeeded t m s.regs with
    | none => .faulted .unwritten s
    | some resend =>
      (sendFrame ct .powerControl ct.addrPower (powerPayload ct t m) s).andThen fun s =>
        let s := s.mapRegs (RegFile.setPower t m)
        if resend then switchReferenceBody ct .internal s else .ok s

/-- The pseudocode of `switch_gain` (R134). -/
def switchGainBody (ct : CodeTable) (ga gb : Gain) (s : State) : Ended :=
  requireBound s fun s =>
    (sendFrame ct .plainWrite .gain (gainPayload ct ga gb) s).andThen fun s =>
    .ok (s.mapRegs (RegFile.setGains ga gb))

/-- The pseudocode of `switch_latch_mode` (R135). -/
def switchLatchBody (ct : CodeTable) (la lb : Latch) (s : State) : Ended :=
  requireBound s fun s =>
    (sendFrame ct .latchControl .all (latchPayload ct la lb) s).andThen fun s =>
    .ok (s.mapRegs (RegFile.setLatches la lb))

/-- `initialize mode` (R130). -/
def execInitDevice (mode : RefMode) (s : State) : Host.Outcome State Fault Refusal :=
  runRequest (initializeBody codes mode) s

/-- `reset mode` (R131). -/
def execReset (mode : ResetMode) (s : State) : Host.Outcome State Fault Refusal :=
  runRequest (resetBody codes mode) s

/-- `switch_reference mode` (R132). -/
def execSwitchReference (mode : RefMode) (s : State) : Host.Outcome State Fault Refusal :=
  runRequest (switchReferenceBody codes mode) s

/-- `switch_power target, mode` (R133). -/
def execSwitchPower (t : PowerTarget) (m : PowerMode) (s : State) : Host.Outcome State Fault Refusal :=
  runRequest (switchPowerBody codes t m) s

/-- `switch_gain gain_a, gain_b` (R134). -/
def execSwitchGain (ga gb : Gain) (s : State) : Host.Outcome State Fault Refusal :=
  runRequest (switchGainBody codes ga gb) s

/-- `switch_latch_mode latch_a, latch_b` (R135). -/
def execSwitchLatchMode (la lb : Latch) (s : State) : Host.Outcome State Fault Refusal :=
  runRequest (switchLatchBody codes la lb) s

end Sys2Proof.Machine
end

