-- ==== Sys2Proof/Machine/Frames.lean ====
section
/-! DEFINITION. The eight frame kinds of the opcode table (40_encoder.md R101 to R108). The meaning of
each is `SendFrame` with its kind (R109); none writes the register file. A frame row presented by itself
goes out on the lines `initialize` binds, so it is taken only when they are bound (60_exceptions.md R214,
70_reset_and_hazards.md R232). DESIGN CHOICE (log 3). -/

namespace Sys2Proof.Machine

/-- A frame row presented by itself: `SendFrame` on the bound lines (R109, log 3). -/
def frameRow (ct : CodeTable) (k : Kind) (a : Address) (p : Half) (s : State) : Ended :=
  requireBound s fun s => sendFrame ct k a p s

/-- `K_WRITE` (R101). -/
def execKWrite (a : Address) (p : Half) (s : State) : Host.Outcome State Fault Refusal :=
  runRequest (frameRow codes .plainWrite a p) s

/-- `K_SWUPD` (R102). -/
def execKSwupd (a : Address) (p : Half) (s : State) : Host.Outcome State Fault Refusal :=
  runRequest (frameRow codes .softwareUpdate a p) s

/-- `K_WRUPDALL` (R103). -/
def execKWrupdAll (a : Address) (p : Half) (s : State) : Host.Outcome State Fault Refusal :=
  runRequest (frameRow codes .writeUpdateAll a p) s

/-- `K_WRUPD` (R104). -/
def execKWrupd (a : Address) (p : Half) (s : State) : Host.Outcome State Fault Refusal :=
  runRequest (frameRow codes .writeUpdateTarget a p) s

/-- `K_POWER` (R105). -/
def execKPower (a : Address) (p : Half) (s : State) : Host.Outcome State Fault Refusal :=
  runRequest (frameRow codes .powerControl a p) s

/-- `K_RESET` (R106). -/
def execKReset (a : Address) (p : Half) (s : State) : Host.Outcome State Fault Refusal :=
  runRequest (frameRow codes .resetControl a p) s

/-- `K_LATCH` (R107). -/
def execKLatch (a : Address) (p : Half) (s : State) : Host.Outcome State Fault Refusal :=
  runRequest (frameRow codes .latchControl a p) s

/-- `K_REF` (R108). -/
def execKRef (a : Address) (p : Half) (s : State) : Host.Outcome State Fault Refusal :=
  runRequest (frameRow codes .referenceControl a p) s

end Sys2Proof.Machine
end

