-- ==== Sys2Proof/Machine/RawRequests.lean ====
section
/-! DEFINITION. The requests that do not touch the register file: `pulse_latch` and `write`
(42_pin_raw_ops.md R180, R181). -/

namespace Sys2Proof.Machine

/-- The pseudocode of `pulse_latch` (R180): low, then high, with nothing between (D25). -/
def pulseLatchBody (s : State) : Ended :=
  requireBound s fun s => .ok ((s.pinClear .ldac).pinSet .ldac)

/-- The pseudocode of `write` (R181): any encodable frame, and no register-file write (C4). -/
def writeBody (ct : CodeTable) (k : Kind) (a : Address) (v : Half) (s : State) : Ended :=
  requireBound s fun s => sendFrame ct k a v s

/-- `pulse_latch` (R180). -/
def execPulseLatch (s : State) : Host.Outcome State Fault Refusal :=
  runRequest pulseLatchBody s

/-- `write kind, address, value` (R181). -/
def execWrite (k : Kind) (a : Address) (v : Half) (s : State) : Host.Outcome State Fault Refusal :=
  runRequest (writeBody codes k a v) s

end Sys2Proof.Machine
end

