-- ==== Sys2Proof/Machine/Dispatch.lean ====
section
/-! DEFINITION. The meaning of every instruction: one arm per row of the opcode table. -/

namespace Sys2Proof.Machine

def exec (i : Instr) (s : State) : Host.Outcome State Fault Refusal :=
  match i with
  -- frame rows (40_encoder.md R101 to R108)
  | .kWrite a p => Sys2Proof.Machine.execKWrite a p s
  | .kSwupd a p => Sys2Proof.Machine.execKSwupd a p s
  | .kWrupdAll a p => Sys2Proof.Machine.execKWrupdAll a p s
  | .kWrupd a p => Sys2Proof.Machine.execKWrupd a p s
  | .kPower a p => Sys2Proof.Machine.execKPower a p s
  | .kReset a p => Sys2Proof.Machine.execKReset a p s
  | .kLatch a p => Sys2Proof.Machine.execKLatch a p s
  | .kRef a p => Sys2Proof.Machine.execKRef a p s
  -- configuration requests (41_config_ops.md R130 to R135)
  | .initDevice mode => Sys2Proof.Machine.execInitDevice mode s
  | .reset mode => Sys2Proof.Machine.execReset mode s
  | .switchReference mode => Sys2Proof.Machine.execSwitchReference mode s
  | .switchPower target mode => Sys2Proof.Machine.execSwitchPower target mode s
  | .switchGain gainA gainB => Sys2Proof.Machine.execSwitchGain gainA gainB s
  | .switchLatchMode latchA latchB => Sys2Proof.Machine.execSwitchLatchMode latchA latchB s
  -- latch pulse and raw write (42_pin_raw_ops.md R180, R181)
  | .pulseLatch => Sys2Proof.Machine.execPulseLatch s
  | .write kind address value => Sys2Proof.Machine.execWrite kind address value s

end Sys2Proof.Machine
end

