-- ==== Sys2Proof/Machine/ReadPort.lean ====
section
/-! DEFINITION. The state read port (10_state.md R36): it returns fields of the register file, has no
side effect and emits no event; a field that holds ⊥ raises `Fault(Unwritten)` (60_exceptions.md R205). -/

namespace Sys2Proof.Machine

/-- The content of one field, `none` when it holds ⊥ (R32, R36). -/
def readField (r : RegFile) : Field → Option FieldValue
  | .ref => r.ref.map .ref
  | .value c => (r.ch c).value.map .value
  | .pwr c => (r.ch c).pwr.map .pwr
  | .gain c => (r.ch c).gain.map .gain
  | .latch c => (r.ch c).latch.map .latch

/-- The contents of several fields, `none` when one of them holds ⊥. -/
def readFields (r : RegFile) : List Field → Option (List FieldValue)
  | [] => some []
  | f :: fs =>
    match readField r f, readFields r fs with
    | some v, some vs => some (v :: vs)
    | _, _ => none

/-- The fields a read asks for. -/
def ReadSel.fields : ReadSel → List Field
  | .all => Field.values
  | .one f => [f]

/-- A read of the state port: the values go to the reader, or the mark is set. It is no request, so the
program position does not move (log 11). -/
def servePort (sel : ReadSel) (s : State) : State :=
  match readFields s.regs (ReadSel.fields sel) with
  | some vs => { s with readings := s.readings ++ [vs], inputs := s.inputs.tail }
  | none => s.mark .unwritten

end Sys2Proof.Machine
end

