-- ==== Sys2Proof/Machine/Serve.lean ====
section
/-! DEFINITION. How the block takes its next input: the state read port, the request port and its refusal,
and one instruction run to its end (00_scope.md R4, 10_state.md R30, R36, 20_memory.md R57). -/

namespace Sys2Proof.Machine

/-- The next input is taken, decoded by `read` and run by `run`. A marked or stuck state takes none
(10_state.md R29, 60_exceptions.md R207). A presented item that cannot be spelled is refused at the
boundary before anything else (R206, R209). -/
def serve {ε : Type} (read : PortItem → Except ε Instr) (run : Instr → State → Host.Outcome State Fault Refusal)
    (s : State) : Host.Outcome State Fault Refusal :=
  match s.fault with
  | some m => .fault (.marked m)
  | none =>
    match s.waiting with
    | some _ => .fault .stuck
    | none =>
      match s.inputs with
      | [] => .refused .noInput
      | .read sel :: _ => .next (servePort sel s)
      | .present item :: _ =>
        match read item with
        | .error _ => .next (s.mark .refused)
        | .ok i =>
          match run i s with
          | .next t => .next t.retire
          | .fault r => .fault r
          | .refused r => .refused r

end Sys2Proof.Machine
end

