-- ==== Sys2Proof/Machine/Step.lean ====
section
/-! DEFINITION. One step of the block, with the spec's default codes (00_scope.md R4, R5). -/

namespace Sys2Proof.Machine

/-- One step: the next input is decoded and executed. -/
def step (s : State) : Host.Outcome State Fault Refusal := serve (decode codes) exec s

/-- `s` with the instruction of an opcode-table word as the next input (log 2, log 4). -/
def State.withFetchWord (s : State) (nbits w : Nat) : State :=
  { s with inputs := .present (tableItem codes nbits w) :: s.inputs }

end Sys2Proof.Machine
end

