-- ==== Sys2Proof/Machine/AnyCodes.lean ====
section
/-! DEFINITION. The machine over any table of codes: every decided code of 00_scope.md R5 is an argument,
and `exec` and `step` are the machine at the default table `codes` (92_eei_decisions.md D3 to D11,
93_implementation_defined.md U16; log 6). -/

namespace Sys2Proof.Machine

/-- The pseudocode of an instruction, over any table of codes. -/
def bodyOf (ct : CodeTable) : Instr → State → Ended
  | .kWrite a p => frameRow ct .plainWrite a p
  | .kSwupd a p => frameRow ct .softwareUpdate a p
  | .kWrupdAll a p => frameRow ct .writeUpdateAll a p
  | .kWrupd a p => frameRow ct .writeUpdateTarget a p
  | .kPower a p => frameRow ct .powerControl a p
  | .kReset a p => frameRow ct .resetControl a p
  | .kLatch a p => frameRow ct .latchControl a p
  | .kRef a p => frameRow ct .referenceControl a p
  | .initDevice m => initializeBody ct m
  | .reset m => resetBody ct m
  | .switchReference m => switchReferenceBody ct m
  | .switchPower t m => switchPowerBody ct t m
  | .switchGain ga gb => switchGainBody ct ga gb
  | .switchLatchMode la lb => switchLatchBody ct la lb
  | .pulseLatch => pulseLatchBody
  | .write k a v => writeBody ct k a v

/-- An instruction with the codes of a table. -/
def execWith (ct : CodeTable) (i : Instr) (s : State) : Host.Outcome State Fault Refusal :=
  runRequest (bodyOf ct i) s

/-- One step with the codes of a table. -/
def stepWith (ct : CodeTable) (s : State) : Host.Outcome State Fault Refusal :=
  serve (decode ct) (execWith ct) s

end Sys2Proof.Machine
end

