-- ==== Sys2Proof/Machine/System.lean ====
section
/-! DEFINITION. Several instances (10_state.md R38, 60_exceptions.md R215): each has its own state and its
own collaborators, which its number names, and nothing is shared (log 16). -/

namespace Sys2Proof.Machine

/-- The instances of a system, each with its own state, inputs and transport. -/
abbrev System := List State

/-- `count` instances at power-up, numbered from 0 (00_scope.md R5 "any", 70_reset_and_hazards.md R230). -/
def System.powerUp (count : Nat) : System := (List.range count).map State.powerUp

/-- No two instances have the same collaborators (R215). -/
def System.Apart (sys : System) : Prop := (sys.map State.unit).Nodup

/-- The instance at place `n` takes one step; `none` when there is no such instance or it takes no step. -/
def stepInstance : Nat → System → Option System
  | _, [] => none
  | 0, s :: rest =>
    match step s with
    | .next t => some (t :: rest)
    | .fault _ => none
    | .refused _ => none
  | n + 1, s :: rest => (stepInstance n rest).map (s :: ·)

end Sys2Proof.Machine
end

