-- ==== Sys2Proof/Machine/Text.lean ====
section
/-! DEFINITION. The text syntax of requests (30_encoding.md R81): a source operation name and its
arguments, comma-separated, one request a line. Spacing and comments after a request: DESIGN CHOICE
(log 17). What the syntax does not list becomes the record `unlisted`, which the request port refuses. -/

namespace Sys2Proof.Machine

/-- The operation names of R81. -/
inductive RequestName
  | initDevice | reset | switchReference | switchPower | switchGain | switchLatchMode | pulseLatch | write
  deriving DecidableEq, Repr

def requestNames : List (String × RequestName) :=
  [("initialize", .initDevice), ("reset", .reset), ("switch_reference", .switchReference),
   ("switch_power", .switchPower), ("switch_gain", .switchGain),
   ("switch_latch_mode", .switchLatchMode), ("pulse_latch", .pulseLatch), ("write", .write)]

def refModeNames : List (String × RefMode) := [("External", .external), ("Internal", .internal)]

def resetModeNames : List (String × ResetMode) := [("DacOnly", .dacOnly), ("All", .all)]

def powerTargetNames : List (String × PowerTarget) := [("A", .a), ("B", .b), ("All", .all)]

def powerModeNames : List (String × PowerMode) :=
  [("On", .on), ("PowerDown_1kOhm", .powerDown1k), ("PowerDown_100kOhm", .powerDown100k),
   ("PowerDown_HiZ", .powerDownHiZ)]

def gainNames : List (String × Gain) := [("Gain1x", .x1), ("Gain2x", .x2)]

def latchNames : List (String × Latch) := [("Async", .async), ("Sync", .sync)]

def kindNames : List (String × Kind) :=
  [("plain-write", .plainWrite), ("software-update", .softwareUpdate),
   ("write-and-update-all", .writeUpdateAll), ("write-and-update-target", .writeUpdateTarget),
   ("power-control", .powerControl), ("reset", .resetControl), ("latch-control", .latchControl),
   ("reference-control", .referenceControl)]

def addressNames : List (String × Address) :=
  [("A", .chA), ("B", .chB), ("GAIN", .gain), ("ALL", .all)]

/-- The value a name stands for. -/
def named {α : Type} (table : List (String × α)) (name : List Char) : Option α :=
  (table.find? fun e => e.1.toList == name).map Prod.snd

def isBlank (c : Char) : Bool := c == ' ' || c == '\t' || c == '\r'

/-- Text without the blanks at both ends. -/
def trimBlanks (cs : List Char) : List Char :=
  ((cs.dropWhile isBlank).reverse.dropWhile isBlank).reverse

/-- The pieces of a text between occurrences of a separator. -/
def splitAtChar (sep : Char) : List Char → List (List Char)
  | [] => [[]]
  | c :: cs =>
    match splitAtChar sep cs with
    | [] => [[c]]
    | w :: ws => if c == sep then [] :: w :: ws else (c :: w) :: ws

/-- The value of a digit in a base of at most 16. -/
def digitValue (base : Nat) (c : Char) : Option Nat :=
  let n := c.toNat
  let v :=
    if 48 ≤ n ∧ n ≤ 57 then some (n - 48)
    else if 65 ≤ n ∧ n ≤ 70 then some (n - 55)
    else if 97 ≤ n ∧ n ≤ 102 then some (n - 87)
    else none
  v.filter (· < base)

/-- A non-empty run of digits in a base. -/
def digitsValue (base acc : Nat) : List Char → Option Nat
  | [] => none
  | [c] => (digitValue base c).map (acc * base + ·)
  | c :: cs => (digitValue base c).bind fun d => digitsValue base (acc * base + d) cs

/-- A number in hex (`0x8000`) or decimal (R81). -/
def numberValue : List Char → Option Nat
  | '0' :: 'x' :: cs => digitsValue 16 0 cs
  | cs => digitsValue 10 0 cs

/-- The record of an operation name and its argument texts. -/
def requestRecord (ct : CodeTable) (op : List Char) (args : List (List Char)) : RawRequest :=
  let record : Option RawRequest :=
    match named requestNames op, args with
    | some .initDevice, [m] => do
      let m ← named refModeNames m
      some (.initDevice (ct.ref m).toNat)
    | some .reset, [m] => do
      let m ← named resetModeNames m
      some (.reset (ct.rst m).toNat)
    | some .switchReference, [m] => do
      let m ← named refModeNames m
      some (.switchReference (ct.ref m).toNat)
    | some .switchPower, [t, m] => do
      let t ← named powerTargetNames t
      let m ← named powerModeNames m
      some (.switchPower (ct.pwrTarget t).toNat (ct.pwrMode m).toNat)
    | some .switchGain, [ga, gb] => do
      let ga ← named gainNames ga
      let gb ← named gainNames gb
      some (.switchGain (ct.gain .a ga).toNat (ct.gain .b gb).toNat)
    | some .switchLatchMode, [la, lb] => do
      let la ← named latchNames la
      let lb ← named latchNames lb
      some (.switchLatchMode (ct.latch .a la).toNat (ct.latch .b lb).toNat)
    | some .pulseLatch, [] => some .pulseLatch
    | some .write, [k, a, v] => do
      let k ← named kindNames k
      let a ← named addressNames a
      let v ← numberValue v
      some (.write (ct.kind k).toNat (ct.addr a).toNat v)
    | _, _ => none
  record.getD .unlisted

/-- One line: nothing when it is blank or a comment, else the record it spells. -/
def parseLine (ct : CodeTable) (line : List Char) : Option RawRequest :=
  match trimBlanks (line.takeWhile (· != ';')) with
  | [] => none
  | text =>
    let op := text.takeWhile fun c => !isBlank c
    let rest := trimBlanks (text.dropWhile fun c => !isBlank c)
    let args := if rest.isEmpty then [] else (splitAtChar ',' rest).map trimBlanks
    some (requestRecord ct op args)

/-- A program text as the caller's inputs, in order (R30, R81). -/
def parseProgram (ct : CodeTable) (text : String) : List Input :=
  ((splitAtChar '\n' text.toList).filterMap (parseLine ct)).map fun r => .present (.request r)

end Sys2Proof.Machine
end

