-- ==== Sys2Proof/Safety.lean ====
section
/-! DEFINITION. The invariants of the machine and what counts as a successful end of a run, in the terms
the statements use. -/

namespace Sys2Proof.Machine

/-- A successful end: the caller's inputs are used up, no mark is set (10_state.md R29) and no transmit is
unanswered (60_exceptions.md R207). -/
def State.endedWell (s : State) : Bool := s.inputs.isEmpty && s.running

/-- The lines after one more event (10_state.md R28). -/
def Lines.after (l : Lines) : Event → Lines
  | .selLow => { l with selN := some .low }
  | .selHigh => { l with selN := some .high }
  | .pinSet .rst => { l with rst := some .high }
  | .pinSet .ldac => { l with ldac := some .high }
  | .pinClear .rst => { l with rst := some .low }
  | .pinClear .ldac => { l with ldac := some .low }
  | .tx _ _ => l

/-- Each line holds the level of the last event that drove it, ⊥ if none did (R28). -/
def LinesFollowTrace (s : State) : Prop := s.line = s.trace.foldl Lines.after Lines.undriven

/-- Where a trace stands with respect to the select bracket (20_memory.md R55). -/
inductive Bracket | outside | selected | sent | broken
  deriving DecidableEq, Repr

/-- A bracket is `SelLow`, one `Tx`, `SelHigh`, with nothing between; outside it select may be driven high
and the pins may move, and no frame is sent. -/
def Bracket.after : Bracket → Event → Bracket
  | .outside, .selLow => .selected
  | .outside, .selHigh => .outside
  | .outside, .pinSet _ => .outside
  | .outside, .pinClear _ => .outside
  | .selected, .tx _ _ => .sent
  | .sent, .selHigh => .outside
  | _, _ => .broken

/-- Every frame of the trace stands inside its own bracket (R55); only a transmit that is never answered
leaves its bracket open (60_exceptions.md R207). -/
def FramesInBrackets (s : State) : Prop :=
  s.trace.foldl Bracket.after .outside = if s.waiting.isSome then .sent else .outside

/-- A frame of the frame-address map: `F[23:22]` is 0 and the address is a defined one (30_encoding.md
R77, 20_memory.md R51). -/
def FrameInMap (f : Frame) : Prop :=
  f.b0.extractLsb' 6 2 = 0#2 ∧
    (f.b0.extractLsb' 0 3 = 0#3 ∨ f.b0.extractLsb' 0 3 = 1#3 ∨ f.b0.extractLsb' 0 3 = 2#3 ∨
      f.b0.extractLsb' 0 3 = 7#3)

/-- Every frame the block has emitted is one of the map (R77 items 1 and 2). -/
def EmittedFramesInMap (s : State) : Prop := ∀ f r, Event.tx f r ∈ s.trace → FrameInMap f

/-- The reset line is never cleared (00_scope.md R9, 60_exceptions.md R214). -/
def ResetLineNeverCleared (s : State) : Prop := Event.pinClear .rst ∉ s.trace

/-- Before `initialize` binds the collaborators the block is as at power-up: nothing written, no line
driven, no event emitted, no response given (10_state.md R26, R27, R28). -/
def UnboundIsUntouched (s : State) : Prop :=
  s.bound = false →
    s.regs = RegFile.unwritten ∧ s.line = Lines.undriven ∧ s.trace = [] ∧ s.responses = [] ∧
      s.waiting = none

/-- Once bound, both channels hold a power mode, and both values read 0 (10_state.md R21, R22). -/
def BoundHoldsBaseline (s : State) : Prop :=
  s.bound = true → ∀ c, (s.regs.ch c).value = some 0#16 ∧ ∃ m, (s.regs.ch c).pwr = some m

/-- A written reference comes with written gains (10_state.md R23, R25: every writer of the one writes the
others). -/
def RefComesWithGains (s : State) : Prop :=
  ∀ m, s.regs.ref = some m → ∀ c, ∃ g, (s.regs.ch c).gain = some g

/-- A stuck transmit holds chip select asserted (60_exceptions.md R207). -/
def StuckHoldsSelect (s : State) : Prop := s.waiting ≠ none → s.line.selN = some .low

/-- The program position counts the completed requests, one response each (10_state.md R30, R200). -/
def PositionCountsResponses (s : State) : Prop := s.responses.length = s.pos

end Sys2Proof.Machine
end

