-- ==== Sys2Proof/WellFormed.lean ====
section
/-! DEFINITION. Which presented items can be spelled (30_encoding.md R77, R80; 60_exceptions.md R206),
written with the spec's numbers and independently of the decoder, which must accept exactly these. An
`Instr` needs no check: its operands have closed types. Then which tables of codes can be read back. -/

namespace Sys2Proof

/-- A kind code is a multiple of 8 and at most 0x38 (R206). -/
def wfKind (n : Nat) : Bool := n % 8 == 0 && decide (n ≤ 0x38)

/-- An address code is one of 0x0, 0x1, 0x2, 0x7 (R77 item 1). -/
def wfAddress (n : Nat) : Bool := n == 0 || n == 1 || n == 2 || n == 7

/-- A value is no wider than 16 bits (R206). -/
def wfValue (n : Nat) : Bool := decide (n < 2 ^ 16)

/-- A two-valued argument is one of its two codes (R74): reset mode, reference mode, and the gain and
latch of channel A. -/
def wfBit0 (n : Nat) : Bool := n == 0 || n == 1

/-- The gain and latch codes of channel B (R74). -/
def wfBit1 (n : Nat) : Bool := n == 0 || n == 2

/-- A power target names a channel (R206, R74). -/
def wfTarget (n : Nat) : Bool := n == 1 || n == 2 || n == 3

/-- A power mode is one of the four of R74. -/
def wfPower (n : Nat) : Bool := n == 0x00 || n == 0x10 || n == 0x20 || n == 0x30

/-- A record the request port can carry (R80). -/
def RawRequest.wf : RawRequest → Bool
  | .initDevice m => wfBit0 m
  | .reset m => wfBit0 m
  | .switchReference m => wfBit0 m
  | .switchPower t m => wfTarget t && wfPower m
  | .switchGain a b => wfBit0 a && wfBit1 b
  | .switchLatchMode a b => wfBit0 a && wfBit1 b
  | .pulseLatch => true
  | .write k a v => wfKind k && wfAddress a && wfValue v
  | .unlisted => false

/-- A frame has exactly three bytes (R54), `b0[7:6] = 0` (R77 item 2) and a defined address (R77 item 1). -/
def wfFrame : List Byte → Bool
  | [b0, _, _] => b0.extractLsb' 6 2 == 0#2 && wfAddress (b0.extractLsb' 0 3).toNat
  | _ => false

def PortItem.wf : PortItem → Bool
  | .request r => r.wf
  | .frame bytes => wfFrame bytes

/-- A table of codes that can be read back: a kind code stands in bits 5..3 of byte 0 (R71), and no two
values of one enumeration share a code (R79). -/
structure CodeTable.WellFormed (ct : CodeTable) : Prop where
  kind_bits : ∀ k, ct.kind k &&& 0x38#8 = ct.kind k
  kind : ∀ x y, ct.kind x = ct.kind y → x = y
  addr : ∀ x y, ct.addr x = ct.addr y → x = y
  rst : ∀ x y, ct.rst x = ct.rst y → x = y
  ref : ∀ x y, ct.ref x = ct.ref y → x = y
  pwrTarget : ∀ x y, ct.pwrTarget x = ct.pwrTarget y → x = y
  pwrMode : ∀ x y, ct.pwrMode x = ct.pwrMode y → x = y
  gain : ∀ c x y, ct.gain c x = ct.gain c y → x = y
  latch : ∀ c x y, ct.latch c x = ct.latch c y → x = y

end Sys2Proof
end

