-- ==== Sys2Proof/Certificates/Slice0/Obligations.lean ====
section
/-! DEFINITION. The statements for the provers. The states and frames that the rules give are written out
here with the spec's own numbers, beside the machine's functions and not through them. -/

namespace Sys2Proof.Claim

open Sys2Proof.Machine

/-! The frames of the rules, in the spec's numbers -/

/-- Address codes (30_encoding.md R72). -/
def addrBits : Address → Byte
  | .chA => 0x00#8
  | .chB => 0x01#8
  | .gain => 0x02#8
  | .all => 0x07#8

/-- Byte0 codes of the kinds (30_encoding.md R71). -/
def kindBits : Kind → Byte
  | .plainWrite => 0x00#8
  | .softwareUpdate => 0x08#8
  | .writeUpdateAll => 0x10#8
  | .writeUpdateTarget => 0x18#8
  | .powerControl => 0x20#8
  | .resetControl => 0x28#8
  | .latchControl => 0x30#8
  | .referenceControl => 0x38#8

/-- The frame of a byte0 code, an address and a payload (40_encoder.md R100): `b0 = k + a`. -/
def frameOf (k : Byte) (a : Address) (p : Half) : Frame :=
  ⟨k + addrBits a, p.extractLsb' 8 8, p.extractLsb' 0 8⟩

/-- `[2F 00 00]` DacOnly, `[2F 00 01]` All (41_config_ops.md R131). -/
def resetFrame : ResetMode → Frame
  | .dacOnly => ⟨0x2F#8, 0x00#8, 0x00#8⟩
  | .all => ⟨0x2F#8, 0x00#8, 0x01#8⟩

/-- `[3F 00 00]` External, `[3F 00 01]` Internal (R132). -/
def refFrame : RefMode → Frame
  | .external => ⟨0x3F#8, 0x00#8, 0x00#8⟩
  | .internal => ⟨0x3F#8, 0x00#8, 0x01#8⟩

/-- The third byte of a power frame, the table V-P0 of 95_test_vectors.md (R133). -/
def powerByte : PowerTarget → PowerMode → Byte
  | .a, .on => 0x01#8
  | .a, .powerDown1k => 0x11#8
  | .a, .powerDown100k => 0x21#8
  | .a, .powerDownHiZ => 0x31#8
  | .b, .on => 0x02#8
  | .b, .powerDown1k => 0x12#8
  | .b, .powerDown100k => 0x22#8
  | .b, .powerDownHiZ => 0x32#8
  | .all, .on => 0x03#8
  | .all, .powerDown1k => 0x13#8
  | .all, .powerDown100k => 0x23#8
  | .all, .powerDownHiZ => 0x33#8

/-- `[27 00 pp]` (R133). -/
def powerFrame (t : PowerTarget) (m : PowerMode) : Frame := ⟨0x27#8, 0x00#8, powerByte t m⟩

/-- The four gain frames `[02 00 gg]` (R134). -/
def gainFrame : Gain → Gain → Frame
  | .x1, .x1 => ⟨0x02#8, 0x00#8, 0x03#8⟩
  | .x1, .x2 => ⟨0x02#8, 0x00#8, 0x01#8⟩
  | .x2, .x1 => ⟨0x02#8, 0x00#8, 0x02#8⟩
  | .x2, .x2 => ⟨0x02#8, 0x00#8, 0x00#8⟩

/-- The four latch frames `[37 00 ll]` (R135). -/
def latchFrame : Latch → Latch → Frame
  | .async, .async => ⟨0x37#8, 0x00#8, 0x00#8⟩
  | .sync, .async => ⟨0x37#8, 0x00#8, 0x01#8⟩
  | .async, .sync => ⟨0x37#8, 0x00#8, 0x02#8⟩
  | .sync, .sync => ⟨0x37#8, 0x00#8, 0x03#8⟩

/-- `gain_default` (10_state.md R33). -/
def defaultGain : RefMode → Gain
  | .internal => .x2
  | .external => .x1

/-! The states of the rules, written out field by field: what is not named keeps its value -/

/-- Neither marked (10_state.md R29) nor stuck (60_exceptions.md R207). -/
def Ready (s : State) : Prop := s.fault = none ∧ s.waiting = none

/-- One frame sent and answered `Ok`, its bracket closed, its commit applied (R109, R203). -/
def sent (s : State) (f : Frame) (commit : RegFile → RegFile) : State :=
  { s with
    regs := commit s.regs
    line := { s.line with selN := some .high }
    answers := s.answers.tail
    drawn := s.drawn + 1
    trace := s.trace ++ [.selLow, .tx f .ok, .selHigh] }

/-- One frame answered `Fail`: its bracket closed, nothing committed, the response given (R109, R202). -/
def sendFailed (s : State) (f : Frame) : State :=
  { s with
    line := { s.line with selN := some .high }
    answers := s.answers.tail
    drawn := s.drawn + 1
    trace := s.trace ++ [.selLow, .tx f .fail, .selHigh]
    responses := s.responses ++ [.transportFailure] }

/-- One frame never answered: select asserted, no response, the block waiting (60_exceptions.md R207). -/
def sendStuck (s : State) (f : Frame) : State :=
  { s with
    line := { s.line with selN := some .low }
    answers := s.answers.tail
    drawn := s.drawn + 1
    trace := s.trace ++ [.selLow, .tx f .never]
    waiting := some f }

/-- The response `Ok` (R200). -/
def completed (s : State) : State := { s with responses := s.responses ++ [.ok] }

/-- The sticky mark and nothing else (R205, R206). -/
def marked (s : State) (m : Mark) : State := { s with fault := some m }

/-- The three events `reset` begins with (R131). -/
def pinsHigh (s : State) : State :=
  { s with
    line := ⟨some .high, some .high, some .high⟩
    trace := s.trace ++ [.pinSet .rst, .pinSet .ldac, .selHigh] }

/-- Running `i` at `s` sends the one frame `f` from `start` and ends by the transport's answer: the
commit and `Ok`, or `TransportFailure` and no commit, or stuck. -/
def EndsByOneFrame (i : Instr) (s start : State) (f : Frame) (commit : RegFile → RegFile) : Prop :=
  match s.nextAnswer with
  | .ok => exec i s = .next (completed (sent start f commit))
  | .fail => exec i s = .next (sendFailed start f)
  | .never => exec i s = .next (sendStuck start f)

/-- The same with a second frame `f2` sent after the first was committed. -/
def EndsByTwoFrames (i : Instr) (s start : State) (f1 : Frame) (commit1 : RegFile → RegFile)
    (f2 : Frame) (commit2 : RegFile → RegFile) : Prop :=
  match s.nextAnswer with
  | .ok =>
    match (sent start f1 commit1).nextAnswer with
    | .ok => exec i s = .next (completed (sent (sent start f1 commit1) f2 commit2))
    | .fail => exec i s = .next (sendFailed (sent start f1 commit1) f2)
    | .never => exec i s = .next (sendStuck (sent start f1 commit1) f2)
  | .fail => exec i s = .next (sendFailed start f1)
  | .never => exec i s = .next (sendStuck start f1)

/-! Commits, written out -/

/-- Step 1 of `initialize` (R130). -/
def onCommit (r : RegFile) : RegFile :=
  { r with
    chA := { r.chA with pwr := some .on, value := some 0#16 }
    chB := { r.chB with pwr := some .on, value := some 0#16 } }

/-- The commit of `reset` (R131, I3). -/
def resetCommit : ResetMode → RegFile → RegFile
  | .dacOnly, r =>
    { r with chA := { r.chA with value := some 0#16 }, chB := { r.chB with value := some 0#16 } }
  | .all, r =>
    { ref := some .external
      chA := { value := some 0#16, pwr := r.chA.pwr, gain := some .x1, latch := some .async }
      chB := { value := some 0#16, pwr := r.chB.pwr, gain := some .x1, latch := some .async } }

/-- The commit of `switch_reference` (R132, I1). -/
def refCommit (m : RefMode) (r : RegFile) : RegFile :=
  { r with
    ref := some m
    chA := { r.chA with gain := some (defaultGain m) }
    chB := { r.chB with gain := some (defaultGain m) } }

/-- The commit of step 1 of `switch_power` (R133). -/
def powerCommit (t : PowerTarget) (m : PowerMode) (r : RegFile) : RegFile :=
  match t with
  | .a => { r with chA := { r.chA with pwr := some m } }
  | .b => { r with chB := { r.chB with pwr := some m } }
  | .all => { r with chA := { r.chA with pwr := some m }, chB := { r.chB with pwr := some m } }

/-- The commit of `switch_gain` (R134). -/
def gainCommit (ga gb : Gain) (r : RegFile) : RegFile :=
  { r with chA := { r.chA with gain := some ga }, chB := { r.chB with gain := some gb } }

/-- The commit of `switch_latch_mode` (R135). -/
def latchCommit (la lb : Latch) (r : RegFile) : RegFile :=
  { r with chA := { r.chA with latch := some la }, chB := { r.chB with latch := some lb } }

/-- What the state read port returns for a field, `none` for ⊥ (R36). -/
def fieldOf (r : RegFile) : Field → Option FieldValue
  | .ref => r.ref.map .ref
  | .value .a => r.chA.value.map .value
  | .value .b => r.chB.value.map .value
  | .pwr .a => r.chA.pwr.map .pwr
  | .pwr .b => r.chB.pwr.map .pwr
  | .gain .a => r.chA.gain.map .gain
  | .gain .b => r.chB.gain.map .gain
  | .latch .a => r.chA.latch.map .latch
  | .latch .b => r.chB.latch.map .latch

/-! The frames of a request over any table of codes (30_encoding.md R76, 00_scope.md R5) -/

/-- The frame of a kind, an address and a payload, with the codes of a table. -/
def frameWith (ct : CodeTable) (k : Kind) (a : Address) (p : Half) : Frame :=
  ⟨ct.kind k ||| (ct.addr a).setWidth 8, p.extractLsb' 8 8, p.extractLsb' 0 8⟩

/-- The frames of an instruction, all of them, the column of R76 with the table's codes in it. -/
def framesWith (ct : CodeTable) : Instr → List Frame
  | .kWrite a p => [frameWith ct .plainWrite a p]
  | .kSwupd a p => [frameWith ct .softwareUpdate a p]
  | .kWrupdAll a p => [frameWith ct .writeUpdateAll a p]
  | .kWrupd a p => [frameWith ct .writeUpdateTarget a p]
  | .kPower a p => [frameWith ct .powerControl a p]
  | .kReset a p => [frameWith ct .resetControl a p]
  | .kLatch a p => [frameWith ct .latchControl a p]
  | .kRef a p => [frameWith ct .referenceControl a p]
  | .initDevice m => [frameWith ct .resetControl ct.addrReset (ct.rst .all),
      frameWith ct .referenceControl ct.addrRef (ct.ref m)]
  | .reset m => [frameWith ct .resetControl ct.addrReset (ct.rst m)]
  | .switchReference m => [frameWith ct .referenceControl ct.addrRef (ct.ref m)]
  | .switchPower t m => [frameWith ct .powerControl ct.addrPower (ct.pwrTarget t ||| ct.pwrMode m),
      frameWith ct .referenceControl ct.addrRef (ct.ref .internal)]
  | .switchGain ga gb => [frameWith ct .plainWrite .gain (ct.gain .a ga ||| ct.gain .b gb)]
  | .switchLatchMode la lb => [frameWith ct .latchControl .all (ct.latch .a la ||| ct.latch .b lb)]
  | .pulseLatch => []
  | .write k a v => [frameWith ct k a v]

/-- The frames an instruction sends when it completes, from a register file: those of R76, where the second
frame of `switch_power` is sent exactly when both channels are then non-On and the reference is Internal
(R133, I2). -/
def framesDue (ct : CodeTable) (r : RegFile) : Instr → List Frame
  | .switchPower t m =>
    if r.ref = some .internal ∧ (powerCommit t m r).chA.pwr ≠ some .on ∧
        (powerCommit t m r).chB.pwr ≠ some .on then
      framesWith ct (.switchPower t m)
    else (framesWith ct (.switchPower t m)).take 1
  | i => framesWith ct i

/-- The frames among events, in order. -/
def framesSent (es : List Event) : List Frame :=
  es.filterMap fun e => match e with
    | .tx f _ => some f
    | _ => none

/-- An event without the bytes of its frame. -/
def withoutBytes : Event → Event
  | .tx _ r => .tx ⟨0#8, 0#8, 0#8⟩ r
  | e => e

/-- All of a state but the bytes of the frames it has sent. -/
def SameButBytes (s t : State) : Prop :=
  s.trace.map withoutBytes = t.trace.map withoutBytes ∧ s.waiting.isSome = t.waiting.isSome ∧
  { s with trace := [], waiting := none } = { t with trace := [], waiting := none }

/-! The names of the text syntax (30_encoding.md R81) -/

def refText : RefMode → String
  | .external => "External"
  | .internal => "Internal"

def resetText : ResetMode → String
  | .dacOnly => "DacOnly"
  | .all => "All"

def targetText : PowerTarget → String
  | .a => "A"
  | .b => "B"
  | .all => "All"

def powerText : PowerMode → String
  | .on => "On"
  | .powerDown1k => "PowerDown_1kOhm"
  | .powerDown100k => "PowerDown_100kOhm"
  | .powerDownHiZ => "PowerDown_HiZ"

def gainText : Gain → String
  | .x1 => "Gain1x"
  | .x2 => "Gain2x"

def latchText : Latch → String
  | .async => "Async"
  | .sync => "Sync"

def kindText : Kind → String
  | .plainWrite => "plain-write"
  | .softwareUpdate => "software-update"
  | .writeUpdateAll => "write-and-update-all"
  | .writeUpdateTarget => "write-and-update-target"
  | .powerControl => "power-control"
  | .resetControl => "reset"
  | .latchControl => "latch-control"
  | .referenceControl => "reference-control"

def addressText : Address → String
  | .chA => "A"
  | .chB => "B"
  | .gain => "GAIN"
  | .all => "ALL"

/-- The instructions that send exactly one frame, and commit only after it: every instruction but
`initialize`, `switch_power` and `pulse_latch` (60_exceptions.md R203, R204). -/
def singleFrame : Instr → Bool
  | .initDevice _ => false
  | .switchPower _ _ => false
  | .pulseLatch => false
  | _ => true

/-- The instruction is a request other than `initialize`, or a frame row (R27). -/
def needsBound : Instr → Bool
  | .initDevice _ => false
  | _ => true

end Sys2Proof.Claim

open Sys2Proof Sys2Proof.Machine Sys2Proof.Claim

/-! ## Encoding -/

/-- R100: for every kind, address and payload, `b0 = k + a`, the payload bytes are its high and low
halves, and every part is recoverable. -/
def Obligations.EncoderComposesFrame : Prop :=
  ∀ (k : Kind) (a : Address) (p : Half),
    encodeFrame codes k a p = frameOf (kindBits k) a p ∧
    (encodeFrame codes k a p).b0 &&& 0x38#8 = kindBits k ∧
    (encodeFrame codes k a p).b0 &&& 0x07#8 = addrBits a ∧
    (encodeFrame codes k a p).b0 &&& 0xC0#8 = 0#8 ∧
    ((encodeFrame codes k a p).b1.setWidth 16 <<< 8) ||| (encodeFrame codes k a p).b2.setWidth 16 = p

/-- R79 (the spec derives it from R70): decoding the frame the encoder composes gives the kind, the
address and the payload back, as the frame row of the table. -/
def Obligations.DecodeInvertsFrameEncoder : Prop :=
  ∀ (k : Kind) (a : Address) (p : Half),
    decode codes (.frame (encodeFrame codes k a p).bytes) = .ok (frameInstr k a p)

/-- Decode and encode agree on every instruction, with every operand at every value (an instruction's
operands have closed types, so every instruction is well formed). The numeric spelling of a request
record is the model's choice (log 5), a frame row presented as its bytes too (log 3). -/
def Obligations.DecodeInvertsEncode : Prop := ∀ i : Instr, decode codes (encode codes i) = .ok i

/-- The other direction for every item: what decodes to an instruction is that instruction's encoding, so
no two spellings stand for one instruction and no bit is ignored (log 3, log 5). -/
def Obligations.EncodeInvertsDecode : Prop :=
  ∀ (x : PortItem) (i : Instr), decode codes x = .ok i → encode codes i = x

/-- R206, R77, R80: the decoder accepts exactly the items that can be spelled, as WellFormed.lean writes
them with the spec's numbers; every other item it refuses (the record's numeric spelling: log 5). -/
def Obligations.DecodeAcceptsExactlyTheSpellable : Prop :=
  ∀ x : PortItem, (∃ i, decode codes x = .ok i) ↔ x.wf = true

/-- R77: three bytes decode exactly when `b0[7:6]` is 0 and the address is 0x0, 0x1, 0x2 or 0x7; the
addresses 0x3 to 0x6 are refused (log 3: a frame presented by itself). -/
def Obligations.ReservedAddressesAreRefused : Prop :=
  ∀ b0 b1 b2 : Byte,
    (∃ i, decode codes (.frame [b0, b1, b2]) = .ok i) ↔
      b0 < 0x40#8 ∧ (b0 &&& 0x07#8 = 0x00#8 ∨ b0 &&& 0x07#8 = 0x01#8 ∨ b0 &&& 0x07#8 = 0x02#8 ∨
        b0 &&& 0x07#8 = 0x07#8)

/-- R75 (derived by the spec from R74): the operands of every payload OR share no bit, and each OR is the
sum of its operands. The codes are the spec's decisions D7 to D10 (log 6). -/
def Obligations.PayloadOperandsAreDisjoint : Prop :=
  (∀ t m, codes.pwrTarget t &&& codes.pwrMode m = 0#16 ∧
    powerPayload codes t m = codes.pwrTarget t + codes.pwrMode m) ∧
  (∀ ga gb, codes.gain .a ga &&& codes.gain .b gb = 0#16 ∧
    gainPayload codes ga gb = codes.gain .a ga + codes.gain .b gb) ∧
  (∀ la lb, codes.latch .a la &&& codes.latch .b lb = 0#16 ∧
    latchPayload codes la lb = codes.latch .a la + codes.latch .b lb)

/-- R52: a frame leaves byte 0 first, then byte 1, then byte 2, each whole, in either bit order
that the model admits; each byte takes eight bits. R53 leaves the bit order wholly open, and the two orders
are the model's choice (log 13). -/
def Obligations.FrameLeavesBytewise : Prop :=
  ∀ (o : BitOrder) (f : Frame), serialBits o f = wireBits o f.b0 ++ wireBits o f.b1 ++ wireBits o f.b2 ∧
    (wireBits o f.b0).length = 8 ∧ (wireBits o f.b1).length = 8 ∧ (wireBits o f.b2).length = 8

/-- R81 (decision D21): a request written in the text syntax, with every enumeration value by its name,
is read as that request's record; the numeric spelling of the record is the model's choice (log 5). -/
def Obligations.TextSyntaxSpellsRequests : Prop :=
  (∀ m, parseProgram codes ("initialize " ++ refText m) = [.present (encode codes (.initDevice m))]) ∧
  (∀ m, parseProgram codes ("reset " ++ resetText m) = [.present (encode codes (.reset m))]) ∧
  (∀ m, parseProgram codes ("switch_reference " ++ refText m) = [.present (encode codes (.switchReference m))]) ∧
  (∀ t m, parseProgram codes ("switch_power " ++ targetText t ++ ", " ++ powerText m) =
    [.present (encode codes (.switchPower t m))]) ∧
  (∀ ga gb, parseProgram codes ("switch_gain " ++ gainText ga ++ ", " ++ gainText gb) =
    [.present (encode codes (.switchGain ga gb))]) ∧
  (∀ la lb, parseProgram codes ("switch_latch_mode " ++ latchText la ++ ", " ++ latchText lb) =
    [.present (encode codes (.switchLatchMode la lb))]) ∧
  parseProgram codes "pulse_latch" = [.present (encode codes .pulseLatch)] ∧
  (∀ k a, parseProgram codes ("write " ++ kindText k ++ ", " ++ addressText a ++ ", 0xABCD") =
    [.present (encode codes (.write k a 0xABCD#16))])

/-- A few words of the opcode table, written out from its encodings, decode to their rows (the reading
of a table word is the model's choice, log 4). -/
def Obligations.TableWordsDecode : Prop :=
  decodeTableWord 24 0x19ABCD = some (.kWrupd .chB 0xABCD#16) ∧
  decodeTableWord 24 0x0F0000 = some (.kSwupd .all 0x0000#16) ∧
  decodeTableWord 24 0x2F0000 = some (.reset .dacOnly) ∧
  decodeTableWord 24 0x3F0001 = some (.switchReference .internal) ∧
  decodeTableWord 24 0x270012 = some (.switchPower .b .powerDown1k) ∧
  decodeTableWord 24 0x020001 = some (.switchGain .x1 .x2) ∧
  decodeTableWord 24 0x370002 = some (.switchLatchMode .async .sync) ∧
  decodeTableWord 24 0x1B0000 = none

/-- R79 over every table of codes that can be read back: decode inverts encode on every instruction, so the
decided codes of R5 can be corrected without touching it. The spelling of items is the model's choice
(log 3, log 5), and the codes are the spec's parameters (log 6). -/
def Obligations.EveryReadableCodeTableRoundTrips : Prop :=
  ∀ ct : CodeTable, ct.WellFormed → ∀ i : Instr, decode ct (encode ct i) = .ok i

/-- R5: the spec's default codes can be read back, and the machine is the machine over any table of codes,
taken at these defaults (decisions D3 to D11, log 6). -/
def Obligations.MachineTakesDefaultCodes : Prop :=
  codes.WellFormed ∧ ∀ s : State, stepWith codes s = step s ∧ ∀ i, execWith codes i s = exec i s

/-- R5, R76: over any table of codes, an instruction that responds `Ok` sends exactly the frames of R76 with
the table's codes in them, in that order, for `switch_power` the second one exactly when the re-send of R133
is due; and an instruction that ends otherwise sends no others, a prefix of them (a frame row presented by
itself, with a response of its own: log 3; the codes: log 6). -/
def Obligations.FramesFollowTheCodeTable : Prop :=
  ∀ (ct : CodeTable) (i : Instr) (s t : State), execWith ct i s = .next t →
    ∃ es : List Event, t.trace = s.trace ++ es ∧ framesSent es <+: framesDue ct s.regs i ∧
      (t.responses = s.responses ++ [.ok] → framesSent es = framesDue ct s.regs i)

/-- 93_implementation_defined.md G3 "no state rule", U16: two tables of codes lead an instruction to the
same state but for the bytes of the frames sent: the codes reach no register, line, response or mark. -/
def Obligations.CodesReachOnlyFrameBytes : Prop :=
  ∀ (ct ct' : CodeTable) (i : Instr) (s t : State), execWith ct i s = .next t →
    ∃ t', execWith ct' i s = .next t' ∧ SameButBytes t t'

/-! ## Power-up and the step -/

/-- R230: at power-up every register-file field and every line is ⊥, the block is unbound and unmarked. -/
def Obligations.PowerUpState : Prop :=
  State.reset.regs = ⟨none, ⟨none, none, none, none⟩, ⟨none, none, none, none⟩⟩ ∧
  State.reset.bound = false ∧
  State.reset.line = ⟨none, none, none⟩ ∧
  State.reset.fault = none

/-- A step at a ready state whose next input is a presented item that decodes to `i` is `exec i`; then the
input is done and the program position advances by one, unless the request was marked or stuck (R30). That
a frame row presented by itself runs and advances the position as a request does is the model's choice
(log 3); that the inputs stand in the state is too (log 2), and that a stuck request does not advance the
position is an inference (log 12). -/
def Obligations.StepRunsDecodedInstruction : Prop :=
  ∀ (s : State) (item : PortItem) (rest : List Input) (i : Instr),
    Ready s → s.inputs = .present item :: rest → decode codes item = .ok i →
    (∃ t, exec i s = .next t) ∧
    ∀ t, exec i s = .next t →
      (Ready t → step s = .next { t with inputs := rest, pos := s.pos + 1 }) ∧
      (¬ Ready t → step s = .next t)

/-- R206: an item that cannot be spelled is refused at the boundary: the mark `Refused`, and nothing
else; it comes before every other check, whether the block is bound or not (R209). The rule speaks of
requests; which numbers spell a record is the model's choice (log 5), and so is a frame presented by itself
and its refusal when it is malformed (log 3). -/
def Obligations.UnspellableRequestIsRefused : Prop :=
  ∀ (s : State) (item : PortItem) (rest : List Input),
    Ready s → s.inputs = .present item :: rest → item.wf = false →
    step s = .next (marked s .refused)

/-- R29: a marked state takes no further step, and no instruction runs in it. -/
def Obligations.MarkedStateTakesNoStep : Prop :=
  ∀ (s : State) (m : Mark), s.fault = some m →
    step s = .fault (.marked m) ∧ ∀ i, exec i s = .fault (.marked m)

/-- R207 (decision D12): a state stuck in a transmit takes no further step. -/
def Obligations.StuckStateTakesNoStep : Prop :=
  ∀ (s : State) (f : Frame), s.fault = none → s.waiting = some f →
    step s = .fault .stuck ∧ ∀ i, exec i s = .fault .stuck

/-- R36 (decision D23): the read port returns the fields asked for, changes nothing else and emits no
event; when one of them holds ⊥ it raises `Fault(Unwritten)`. What is returned is kept in the model's own
`readings` (log 10, log 11). -/
def Obligations.ReadPortReturnsFields : Prop :=
  ∀ (s : State) (rest : List Input), Ready s →
    (∀ f, s.inputs = .read (.one f) :: rest →
      match fieldOf s.regs f with
      | some v => step s = .next { s with inputs := rest, readings := s.readings ++ [[v]] }
      | none => step s = .next (marked s .unwritten)) ∧
    (s.inputs = .read .all :: rest →
      match fieldOf s.regs .ref, fieldOf s.regs (.value .a), fieldOf s.regs (.pwr .a),
        fieldOf s.regs (.gain .a), fieldOf s.regs (.latch .a), fieldOf s.regs (.value .b),
        fieldOf s.regs (.pwr .b), fieldOf s.regs (.gain .b), fieldOf s.regs (.latch .b) with
      | some r, some va, some pa, some ga, some la, some vb, some pb, some gb, some lb =>
        step s = .next { s with inputs := rest,
                                readings := s.readings ++ [[r, va, pa, ga, la, vb, pb, gb, lb]] }
      | _, _, _, _, _, _, _, _, _ => step s = .next (marked s .unwritten))

/-- R109 (decisions D12, D13): the frame transaction, by the transport's answer: the bracket
`SelLow`, `Tx`, `SelHigh` and on; or the same and `TransportFailure`; or, with no answer, stuck with select
asserted. It writes nothing but the select line. -/
def Obligations.FrameTransactionRule : Prop :=
  ∀ (k : Kind) (a : Address) (p : Half) (s : State),
    match s.nextAnswer with
    | .ok => sendFrame codes k a p s = .ok (sent s (frameOf (kindBits k) a p) id)
    | .fail =>
      sendFrame codes k a p s =
        .failed { sendFailed s (frameOf (kindBits k) a p) with responses := s.responses }
    | .never => sendFrame codes k a p s = .stuck (sendStuck s (frameOf (kindBits k) a p))

/-! ## The requests, rule by rule: results, frames and completion -/

/-- R130 (decisions D16, D17; bytes by D5, D6, D11): `initialize m` at any ready state, bound or not:
binds, sets both channels On with value 0, resets, switches the reference, each step committing on its
own; by the transport's answers it ends `Ok`, fails in step 2 or 3, or is stuck there. -/
def Obligations.InitializeRule : Prop :=
  ∀ (m : RefMode) (s : State), Ready s →
    EndsByTwoFrames (.initDevice m) s
      (pinsHigh { s with bound := true, regs := onCommit s.regs })
      (resetFrame .all) (resetCommit .all) (refFrame m) (refCommit m)

/-- R32, column "after initialize(m)" (the spec derives it): after an `initialize m` that responds `Ok`
the register file, the lines and the binding hold exactly these values, whatever they were before. -/
def Obligations.InitializeEstablishesBaseline : Prop :=
  ∀ (m : RefMode) (s : State), Ready s → s.nextAnswer = .ok → s.drawAnswer.nextAnswer = .ok →
    ∃ t, exec (.initDevice m) s = .next t ∧
      t.regs = ⟨some m, ⟨some 0#16, some .on, some (defaultGain m), some .async⟩,
        ⟨some 0#16, some .on, some (defaultGain m), some .async⟩⟩ ∧
      t.bound = true ∧ t.line = ⟨some .high, some .high, some .high⟩ ∧ t.fault = none ∧
      t.responses = s.responses ++ [.ok]

/-- R131 (D24 for the order of the first three events; bytes by D5, D11; NotBound by D16): `reset m`. -/
def Obligations.ResetRule : Prop :=
  ∀ (m : ResetMode) (s : State), Ready s →
    if s.bound then EndsByOneFrame (.reset m) s (pinsHigh s) (resetFrame m) (resetCommit m)
    else exec (.reset m) s = .next (marked s .notBound)

/-- R132 with I1 (bytes by D6, D11; NotBound by D16): `switch_reference m`. -/
def Obligations.SwitchReferenceRule : Prop :=
  ∀ (m : RefMode) (s : State), Ready s →
    if s.bound then EndsByOneFrame (.switchReference m) s s (refFrame m) (refCommit m)
    else exec (.switchReference m) s = .next (marked s .notBound)

/-- R133 with I2 (D14, D15, D16, D32; bytes by D7, D8, D11): `switch_power t m`. The re-send condition is
on the power modes after the request and on `S.ref`, which is read only when both channels would be
non-On; a ⊥ that is read raises `Fault(Unwritten)` before any event. -/
def Obligations.SwitchPowerRule : Prop :=
  ∀ (t : PowerTarget) (m : PowerMode) (s : State), Ready s →
    if s.bound then
      match (powerCommit t m s.regs).chA.pwr, (powerCommit t m s.regs).chB.pwr with
      | some pa, some pb =>
        if pa ≠ .on ∧ pb ≠ .on then
          match s.regs.ref with
          | none => exec (.switchPower t m) s = .next (marked s .unwritten)
          | some .external =>
            EndsByOneFrame (.switchPower t m) s s (powerFrame t m) (powerCommit t m)
          | some .internal =>
            EndsByTwoFrames (.switchPower t m) s s (powerFrame t m) (powerCommit t m)
              (refFrame .internal) (refCommit .internal)
        else EndsByOneFrame (.switchPower t m) s s (powerFrame t m) (powerCommit t m)
      | _, _ => exec (.switchPower t m) s = .next (marked s .unwritten)
    else exec (.switchPower t m) s = .next (marked s .notBound)

/-- R134 (bytes by D9; NotBound by D16): `switch_gain ga gb`, with any reference mode. -/
def Obligations.SwitchGainRule : Prop :=
  ∀ (ga gb : Gain) (s : State), Ready s →
    if s.bound then EndsByOneFrame (.switchGain ga gb) s s (gainFrame ga gb) (gainCommit ga gb)
    else exec (.switchGain ga gb) s = .next (marked s .notBound)

/-- R135 (bytes by D10; NotBound by D16): `switch_latch_mode la lb`. -/
def Obligations.SwitchLatchModeRule : Prop :=
  ∀ (la lb : Latch) (s : State), Ready s →
    if s.bound then EndsByOneFrame (.switchLatchMode la lb) s s (latchFrame la lb) (latchCommit la lb)
    else exec (.switchLatchMode la lb) s = .next (marked s .notBound)

/-- R180 (D25; NotBound by D16): `pulse_latch` drives the latch line low then high, with nothing between,
sends no frame, writes no register and responds `Ok`. -/
def Obligations.PulseLatchRule : Prop :=
  ∀ s : State, Ready s →
    if s.bound then
      exec .pulseLatch s = .next { s with
        line := { s.line with ldac := some .high }
        trace := s.trace ++ [.pinClear .ldac, .pinSet .ldac]
        responses := s.responses ++ [.ok] }
    else exec .pulseLatch s = .next (marked s .notBound)

/-- R181 (pairing of codes by D3, D4; NotBound by D16): `write k a v` sends the frame asked for, for every
kind, address and value, and writes no register on success or failure. -/
def Obligations.WriteRule : Prop :=
  ∀ (k : Kind) (a : Address) (v : Half) (s : State), Ready s →
    if s.bound then EndsByOneFrame (.write k a v) s s (frameOf (kindBits k) a v) id
    else exec (.write k a v) s = .next (marked s .notBound)

/-- R101 to R109: the eight frame rows, each sending the frame of its own byte0 code with any address and
payload, and writing no register. That a frame row can be presented by itself, and then on a bound block
only, is the model's choice (log 3). -/
def Obligations.FrameRowsSendTheirFrame : Prop :=
  ∀ (a : Address) (p : Half) (s : State), Ready s → s.bound = true →
    EndsByOneFrame (.kWrite a p) s s (frameOf 0x00#8 a p) id ∧
    EndsByOneFrame (.kSwupd a p) s s (frameOf 0x08#8 a p) id ∧
    EndsByOneFrame (.kWrupdAll a p) s s (frameOf 0x10#8 a p) id ∧
    EndsByOneFrame (.kWrupd a p) s s (frameOf 0x18#8 a p) id ∧
    EndsByOneFrame (.kPower a p) s s (frameOf 0x20#8 a p) id ∧
    EndsByOneFrame (.kReset a p) s s (frameOf 0x28#8 a p) id ∧
    EndsByOneFrame (.kLatch a p) s s (frameOf 0x30#8 a p) id ∧
    EndsByOneFrame (.kRef a p) s s (frameOf 0x38#8 a p) id

/-! ## Errors -/

/-- R205, R27 (decision D16): on an unbound block everything but `initialize` raises `Fault(NotBound)`
before any event (for a frame row this is the model's choice, log 3). -/
def Obligations.UnboundBlockRaisesNotBound : Prop :=
  ∀ (i : Instr) (s : State), Ready s → s.bound = false → needsBound i = true →
    exec i s = .next (marked s .notBound)

/-- R205 (decision D16): whatever the instruction, a fault is raised before it emits any event or writes
any register: the state after is the state before with the mark. -/
def Obligations.FaultComesBeforeAnyEvent : Prop :=
  ∀ (i : Instr) (s t : State), exec i s = .next t → t.fault ≠ none →
    ∃ m, t = marked s m ∧ (m = .notBound ∨ m = .unwritten)

/-- R203, R202: after a `TransportFailure` in an instruction that sends one frame, the register file and
the binding are as before, the response says so, select is high again and the block is ready for the
next request. The frame rows among these instructions are presented by themselves by the model's choice
(log 3). -/
def Obligations.FailedFrameLeavesRegistersUnchanged : Prop :=
  ∀ (i : Instr) (s : State), Ready s → s.bound = true → singleFrame i = true →
    s.nextAnswer = .fail →
    ∃ t, exec i s = .next t ∧ t.regs = s.regs ∧ t.bound = s.bound ∧
      t.responses = s.responses ++ [.transportFailure] ∧ t.line.selN = some .high ∧ Ready t

/-- R207 (decision D12): when the first frame is never answered, the block is stuck: no response, select
asserted, the register file as before, and no further step. The frame rows among these instructions are
presented by themselves by the model's choice (log 3). -/
def Obligations.UnansweredFrameIsStuck : Prop :=
  ∀ (i : Instr) (s : State), Ready s → s.bound = true → singleFrame i = true →
    s.nextAnswer = .never →
    ∃ t, exec i s = .next t ∧ t.regs = s.regs ∧ t.responses = s.responses ∧
      t.line.selN = some .low ∧ t.fault = none ∧ step t = .fault .stuck

/-- R201: `pulse_latch` cannot raise `TransportFailure`, nor be stuck; it draws no answer at all. -/
def Obligations.PulseLatchCannotFail : Prop :=
  ∀ s t : State, exec .pulseLatch s = .next t →
    .transportFailure ∉ t.responses.drop s.responses.length ∧ t.waiting = none ∧
      t.answers = s.answers ∧ t.drawn = s.drawn

/-- R200, R209 (decisions D16, D27): an instruction has exactly one outcome: one response and no mark, or
a mark and no response, or stuck with neither. The rules speak of requests; that a frame row presented by
itself ends in the same ways, with a response of its own, is the model's choice (log 3). -/
def Obligations.OneOutcomePerInstruction : Prop :=
  ∀ (i : Instr) (s t : State), exec i s = .next t →
    (Ready t ∧ (t.responses = s.responses ++ [.ok] ∨ t.responses = s.responses ++ [.transportFailure])) ∨
    (t.fault ≠ none ∧ t.waiting = none ∧ t.responses = s.responses) ∨
    (t.fault = none ∧ t.waiting ≠ none ∧ t.responses = s.responses)

/-- R57, R56: an instruction only appends events: none already emitted is dropped or reordered; and it
draws one answer for each frame it sends, never sending more than two. The rules speak of requests; a frame
row presented by itself is the model's choice (log 3). -/
def Obligations.EventsAreOnlyAppended : Prop :=
  ∀ (i : Instr) (s t : State), exec i s = .next t →
    ∃ es : List Event, t.trace = s.trace ++ es ∧
      t.drawn = s.drawn + (es.filter fun e => match e with | .tx _ _ => true | _ => false).length ∧
      t.drawn ≤ s.drawn + 2

/-- An instruction touches neither the caller's inputs, nor the program position, nor what the read port
returned (R30, R36), nor which instance it runs in (R27, R38). That the inputs, what was read and the number
of the instance stand in the state is the model's choice (log 2, log 10, log 16). -/
def Obligations.InstructionLeavesCallerSide : Prop :=
  ∀ (i : Instr) (s t : State), exec i s = .next t →
    t.inputs = s.inputs ∧ t.pos = s.pos ∧ t.readings = s.readings ∧ t.unit = s.unit

/-! ## Who writes what -/

/-- R21: `S.ch[c].value` is written by `reset` and `initialize` only, and only with 0; in particular
`write` does not write it (C4). -/
def Obligations.OnlyResetsWriteValue : Prop :=
  ∀ (i : Instr) (s t : State) (c : Channel), exec i s = .next t →
    (t.regs.ch c).value ≠ (s.regs.ch c).value →
    (t.regs.ch c).value = some 0#16 ∧ ((∃ m, i = .reset m) ∨ ∃ m, i = .initDevice m)

/-- R22: `S.ch[c].pwr` is written by `initialize`, with `On`, and by `switch_power` for its targets, with
its mode; `reset` does not write it (C3). -/
def Obligations.OnlyInitializeAndSwitchPowerWritePower : Prop :=
  ∀ (i : Instr) (s t : State) (c : Channel), exec i s = .next t →
    (t.regs.ch c).pwr ≠ (s.regs.ch c).pwr →
    ((∃ m, i = .initDevice m) ∧ (t.regs.ch c).pwr = some .on) ∨
    ∃ tg m, i = .switchPower tg m ∧ (tg = .all ∨ (tg = .a ∧ c = .a) ∨ (tg = .b ∧ c = .b)) ∧
      (t.regs.ch c).pwr = some m

/-- R23: `S.ch[c].gain` is written by `reset All` (Gain1x), `switch_reference` and what runs it
(`initialize`, and the re-send of `switch_power`), and `switch_gain`. -/
def Obligations.GainWriters : Prop :=
  ∀ (i : Instr) (s t : State) (c : Channel), exec i s = .next t →
    (t.regs.ch c).gain ≠ (s.regs.ch c).gain →
    (i = .reset .all ∧ (t.regs.ch c).gain = some .x1) ∨
    (∃ m, i = .switchReference m ∧ (t.regs.ch c).gain = some (defaultGain m)) ∨
    (∃ m, i = .initDevice m ∧
      ((t.regs.ch c).gain = some .x1 ∨ (t.regs.ch c).gain = some (defaultGain m))) ∨
    (∃ tg m, i = .switchPower tg m ∧ (t.regs.ch c).gain = some .x2) ∨
    (∃ ga gb, i = .switchGain ga gb ∧
      (t.regs.ch c).gain = some (match c with | .a => ga | .b => gb))

/-- R24: `S.ch[c].latch` is written by `reset All` (and so `initialize`), with `Async`, and by
`switch_latch_mode`, with its argument. -/
def Obligations.LatchWriters : Prop :=
  ∀ (i : Instr) (s t : State) (c : Channel), exec i s = .next t →
    (t.regs.ch c).latch ≠ (s.regs.ch c).latch →
    (i = .reset .all ∧ (t.regs.ch c).latch = some .async) ∨
    (∃ m, i = .initDevice m ∧ (t.regs.ch c).latch = some .async) ∨
    (∃ la lb, i = .switchLatchMode la lb ∧
      (t.regs.ch c).latch = some (match c with | .a => la | .b => lb))

/-- R25: `S.ref` is written by `reset All` (and so `initialize`), with `External`, and by
`switch_reference` (and so `initialize` and the re-send of `switch_power`), with its argument. -/
def Obligations.ReferenceWriters : Prop :=
  ∀ (i : Instr) (s t : State), exec i s = .next t → t.regs.ref ≠ s.regs.ref →
    (i = .reset .all ∧ t.regs.ref = some .external) ∨
    (∃ m, i = .switchReference m ∧ t.regs.ref = some m) ∨
    (∃ m, i = .initDevice m ∧ (t.regs.ref = some .external ∨ t.regs.ref = some m)) ∨
    (∃ tg m, i = .switchPower tg m ∧ t.regs.ref = some .internal)

/-- R27: no step ever clears the binding, and only `initialize` sets it. -/
def Obligations.OnlyInitializeBinds : Prop :=
  (∀ s t : State, step s = .next t → s.bound = true → t.bound = true) ∧
  ∀ (i : Instr) (s t : State), exec i s = .next t → t.bound ≠ s.bound → ∃ m, i = .initDevice m

/-- I3 (R131, source property E2 with C3): after a `reset All` that succeeds, the register file does not
depend on what it held before, except for the power modes. -/
def Obligations.ResetAllForgetsTheRegisterFile : Prop :=
  ∀ s1 s2 t1 t2 : State, s1.nextAnswer = .ok → s2.nextAnswer = .ok →
    s1.bound = true → s2.bound = true →
    exec (.reset .all) s1 = .next t1 → exec (.reset .all) s2 = .next t2 →
    s1.regs.chA.pwr = s2.regs.chA.pwr → s1.regs.chB.pwr = s2.regs.chB.pwr →
    t1.regs = t2.regs

/-- I2 (R34, R133, C1): a `switch_power` whose frames are all answered `Ok` sends the reference frame
`[3F 00 01]` a second time exactly when it leaves both channels non-On with `S.ref` Internal, and never
otherwise, powering a channel back on included. -/
def Obligations.ResendExactlyAtAllOff : Prop :=
  ∀ (tg : PowerTarget) (m : PowerMode) (s t : State), s.bound = true →
    s.nextAnswer = .ok → s.drawAnswer.nextAnswer = .ok →
    exec (.switchPower tg m) s = .next t → t.fault = none →
    (.tx (refFrame .internal) .ok ∈ t.trace.drop s.trace.length ↔
      s.regs.ref = some .internal ∧ t.regs.chA.pwr ≠ some .on ∧ t.regs.chB.pwr ≠ some .on)

/-! ## Invariants of every step, from every state that meets them -/

/-- R28: every line holds the level of the last event that drove it. -/
def Obligations.StepKeepsLinesFollowingTrace : Prop :=
  ∀ s t : State, LinesFollowTrace s → step s = .next t → LinesFollowTrace t

/-- R55 (derived by the spec from R109 and R57): every frame stands inside its own select bracket, and no
pin event or other frame falls between. -/
def Obligations.StepKeepsFramesInBrackets : Prop :=
  ∀ s t : State, FramesInBrackets s → step s = .next t → FramesInBrackets t

/-- R77 items 1 and 2: the block never emits a frame with a reserved address or with `F[23:22]` not 0. -/
def Obligations.StepKeepsEmittedFramesInMap : Prop :=
  ∀ s t : State, EmittedFramesInMap s → step s = .next t → EmittedFramesInMap t

/-- R9, R214: no step clears the reset line. -/
def Obligations.StepNeverClearsResetLine : Prop :=
  ∀ s t : State, ResetLineNeverCleared s → step s = .next t → ResetLineNeverCleared t

/-- R26, R27, R28 (D16, D31): until it is bound, the block stays as at power-up. That a frame row
presented by itself is part of this is the model's choice (log 3). -/
def Obligations.StepKeepsUnboundUntouched : Prop :=
  ∀ s t : State, UnboundIsUntouched s → step s = .next t → UnboundIsUntouched t

/-- R21, R22 (the spec derives the value's part): once bound, both values read 0 and both channels hold a
power mode; so `switch_power` never meets a ⊥ power mode. -/
def Obligations.StepKeepsBoundBaseline : Prop :=
  ∀ s t : State, BoundHoldsBaseline s → step s = .next t → BoundHoldsBaseline t

/-- R23, R25: a written reference always comes with written gains. -/
def Obligations.StepKeepsRefWithGains : Prop :=
  ∀ s t : State, RefComesWithGains s → step s = .next t → RefComesWithGains t

/-- R207: a stuck block holds chip select asserted. -/
def Obligations.StepKeepsStuckSelect : Prop :=
  ∀ s t : State, StuckHoldsSelect s → step s = .next t → StuckHoldsSelect t

/-- R30: the program position counts the completed requests, one response each. That a completed frame row
presented by itself counts as one is the model's choice (log 3). -/
def Obligations.StepKeepsPositionCount : Prop :=
  ∀ s t : State, PositionCountsResponses s → step s = .next t → PositionCountsResponses t

/-- R230: the machine at power-up meets every invariant above. -/
def Obligations.PowerUpMeetsEveryInvariant : Prop :=
  LinesFollowTrace State.reset ∧ FramesInBrackets State.reset ∧ EmittedFramesInMap State.reset ∧
  ResetLineNeverCleared State.reset ∧ UnboundIsUntouched State.reset ∧ BoundHoldsBaseline State.reset ∧
  RefComesWithGains State.reset ∧ StuckHoldsSelect State.reset ∧ PositionCountsResponses State.reset

/-! ## Several instances -/

/-- R38, R215: a step of one instance is that instance's own step, and every other instance is left as it
was. -/
def Obligations.InstancesShareNothing : Prop :=
  ∀ (n : Nat) (sys sys' : System), stepInstance n sys = some sys' →
    (∃ s t, sys[n]? = some s ∧ step s = .next t ∧ sys'[n]? = some t) ∧
    ∀ k, k ≠ n → sys'[k]? = sys[k]?

/-- R38, R215: instances at power-up, however many, each hold the power-up state but for their number, and no
two have the same collaborators, so with no answer fixed in advance each draws from its own transport. That a
number names an instance's collaborators is the model's choice (log 16). -/
def Obligations.InstancesPowerUpApart : Prop :=
  ∀ count : Nat, (System.powerUp count).length = count ∧ (System.powerUp count).Apart ∧
    ∀ (n : Nat) (s : State), (System.powerUp count)[n]? = some s →
      s = { State.reset with unit := n } ∧ s.nextAnswer = Config.transportAnswer n 0

/-- R38, R215: a step of one instance gives no instance other collaborators, so instances that have none in
common never come to have any. That a number names an instance's collaborators is the model's choice
(log 16). -/
def Obligations.StepKeepsInstancesApart : Prop :=
  ∀ (n : Nat) (sys sys' : System), stepInstance n sys = some sys' →
    sys'.map State.unit = sys.map State.unit ∧ (sys.Apart → sys'.Apart)
end

