-- ==== Sys2Proof/Laws/Decode.lean ====
section
/-! SUPPORT. Reading codes back, and the fields of an encoded frame. -/

namespace Sys2Proof

open Machine

/-- What `ofCode` finds has the code asked for. -/
theorem ofCode_some {α : Type} {values : List α} {code : α → Nat} {n : Nat} {x : α}
    (h : ofCode values code n = some x) : code x = n := by
  simpa using List.find?_some h

@[simp] theorem kindOfCode_code (k : Kind) : kindOfCode codes (codes.kind k).toNat = some k := by
  cases k <;> decide

@[simp] theorem addressOfCode_code (a : Address) : addressOfCode codes (codes.addr a).toNat = some a := by
  cases a <;> decide

@[simp] theorem resetModeOfCode_code (m : ResetMode) : resetModeOfCode codes (codes.rst m).toNat = some m := by
  cases m <;> decide

@[simp] theorem refModeOfCode_code (m : RefMode) : refModeOfCode codes (codes.ref m).toNat = some m := by
  cases m <;> decide

@[simp] theorem powerTargetOfCode_code (t : PowerTarget) :
    powerTargetOfCode codes (codes.pwrTarget t).toNat = some t := by
  cases t <;> decide

@[simp] theorem powerModeOfCode_code (m : PowerMode) :
    powerModeOfCode codes (codes.pwrMode m).toNat = some m := by
  cases m <;> decide

@[simp] theorem gainOfCode_code (c : Channel) (g : Gain) :
    gainOfCode codes c (codes.gain c g).toNat = some g := by
  cases c <;> cases g <;> decide

@[simp] theorem latchOfCode_code (c : Channel) (l : Latch) :
    latchOfCode codes c (codes.latch c l).toNat = some l := by
  cases c <;> cases l <;> decide

@[simp] theorem halfOfNat_toNat (v : Half) : halfOfNat v.toNat = some v := by
  simp [halfOfNat, v.isLt]

@[simp] theorem need_some {α : Type} (v : α) (e : DecodeError) : need (some v) e = .ok v := rfl

@[simp] theorem need_none {α : Type} (e : DecodeError) : need (none : Option α) e = .error e := rfl

/-! Which codes are listed (R206) -/

theorem kindOfCode_isSome (n : Nat) : (kindOfCode codes n).isSome = wfKind n := by
  by_cases h : n ≤ 56
  · interval_cases n <;> decide
  · have hw : wfKind n = false := by simp [wfKind]; omega
    rw [hw]; simp [kindOfCode, ofCode, codes, Kind.values]; omega

theorem addressOfCode_isSome (n : Nat) : (addressOfCode codes n).isSome = wfAddress n := by
  by_cases h : n ≤ 7
  · interval_cases n <;> decide
  · have hw : wfAddress n = false := by simp [wfAddress]; omega
    rw [hw]; simp [addressOfCode, ofCode, codes, Address.values]; omega

theorem powerModeOfCode_isSome (n : Nat) : (powerModeOfCode codes n).isSome = wfPower n := by
  by_cases h : n ≤ 0x30
  · interval_cases n <;> decide
  · have hw : wfPower n = false := by simp [wfPower]; omega
    rw [hw]; simp [powerModeOfCode, ofCode, codes, PowerMode.values]; omega

/-! The fields of an encoded frame (R79) -/

@[simp] theorem frameTop_encodeFrame (k : Kind) (a : Address) (p : Half) :
    frameTop (encodeFrame codes k a p) = 0#2 := by
  simp only [frameTop, encodeFrame]
  cases k <;> cases a <;> decide

@[simp] theorem frameKindCode_encodeFrame (k : Kind) (a : Address) (p : Half) :
    frameKindCode (encodeFrame codes k a p) = codes.kind k := by
  simp only [frameKindCode, encodeFrame]
  cases k <;> cases a <;> decide

@[simp] theorem frameAddrCode_encodeFrame (k : Kind) (a : Address) (p : Half) :
    frameAddrCode (encodeFrame codes k a p) = codes.addr a := by
  simp only [frameAddrCode, encodeFrame]
  cases k <;> cases a <;> decide

@[simp] theorem framePayload_encodeFrame (k : Kind) (a : Address) (p : Half) :
    framePayload (encodeFrame codes k a p) = p := by
  simp only [framePayload, encodeFrame]
  apply BitVec.eq_of_getLsbD_eq
  intro i hi
  rw [BitVec.getLsbD_append]
  by_cases h : i < 8
  · simp [h]
  · have h8 : 8 + (i - 8) = i := by omega
    have hi8 : i - 8 < 8 := by omega
    simp [h, h8, hi8]

/-- Decoding an encoded frame's fields gives them back. -/
@[simp] theorem decodeFields_encodeFrame (k : Kind) (a : Address) (p : Half) :
    decodeFields codes (encodeFrame codes k a p) = .ok (k, a, p) := by
  simp only [decodeFields, frameTop_encodeFrame, frameKindCode_encodeFrame,
    frameAddrCode_encodeFrame, framePayload_encodeFrame, kindOfCode_code, addressOfCode_code, need_some]
  rfl

end Sys2Proof
end

