-- ==== Sys2Proof/Laws/State.lean ====
section
/-! SUPPORT. One lemma per field per update of the state, so that no proof unfolds a record update. -/

namespace Sys2Proof.Machine

@[simp] theorem State.selLow_regs (s : State) : s.selLow.regs = s.regs := rfl
@[simp] theorem State.selLow_bound (s : State) : s.selLow.bound = s.bound := rfl
@[simp] theorem State.selLow_line (s : State) : s.selLow.line = { s.line with selN := some .low } := rfl
@[simp] theorem State.selLow_fault (s : State) : s.selLow.fault = s.fault := rfl
@[simp] theorem State.selLow_waiting (s : State) : s.selLow.waiting = s.waiting := rfl
@[simp] theorem State.selLow_pos (s : State) : s.selLow.pos = s.pos := rfl
@[simp] theorem State.selLow_inputs (s : State) : s.selLow.inputs = s.inputs := rfl
@[simp] theorem State.selLow_answers (s : State) : s.selLow.answers = s.answers := rfl
@[simp] theorem State.selLow_drawn (s : State) : s.selLow.drawn = s.drawn := rfl
@[simp] theorem State.selLow_trace (s : State) : s.selLow.trace = s.trace ++ [.selLow] := rfl
@[simp] theorem State.selLow_responses (s : State) : s.selLow.responses = s.responses := rfl
@[simp] theorem State.selLow_readings (s : State) : s.selLow.readings = s.readings := rfl
@[simp] theorem State.selLow_unit (s : State) : s.selLow.unit = s.unit := rfl
@[simp] theorem State.selLow_nextAnswer (s : State) : s.selLow.nextAnswer = s.nextAnswer := rfl

@[simp] theorem State.selHigh_regs (s : State) : s.selHigh.regs = s.regs := rfl
@[simp] theorem State.selHigh_bound (s : State) : s.selHigh.bound = s.bound := rfl
@[simp] theorem State.selHigh_line (s : State) : s.selHigh.line = { s.line with selN := some .high } := rfl
@[simp] theorem State.selHigh_fault (s : State) : s.selHigh.fault = s.fault := rfl
@[simp] theorem State.selHigh_waiting (s : State) : s.selHigh.waiting = s.waiting := rfl
@[simp] theorem State.selHigh_pos (s : State) : s.selHigh.pos = s.pos := rfl
@[simp] theorem State.selHigh_inputs (s : State) : s.selHigh.inputs = s.inputs := rfl
@[simp] theorem State.selHigh_answers (s : State) : s.selHigh.answers = s.answers := rfl
@[simp] theorem State.selHigh_drawn (s : State) : s.selHigh.drawn = s.drawn := rfl
@[simp] theorem State.selHigh_trace (s : State) : s.selHigh.trace = s.trace ++ [.selHigh] := rfl
@[simp] theorem State.selHigh_responses (s : State) : s.selHigh.responses = s.responses := rfl
@[simp] theorem State.selHigh_readings (s : State) : s.selHigh.readings = s.readings := rfl
@[simp] theorem State.selHigh_unit (s : State) : s.selHigh.unit = s.unit := rfl
@[simp] theorem State.selHigh_nextAnswer (s : State) : s.selHigh.nextAnswer = s.nextAnswer := rfl

@[simp] theorem State.pinSet_regs (p : Pin) (s : State) : (s.pinSet p).regs = s.regs := rfl
@[simp] theorem State.pinSet_bound (p : Pin) (s : State) : (s.pinSet p).bound = s.bound := rfl
@[simp] theorem State.pinSet_line (p : Pin) (s : State) : (s.pinSet p).line = s.line.drive p .high := rfl
@[simp] theorem State.pinSet_fault (p : Pin) (s : State) : (s.pinSet p).fault = s.fault := rfl
@[simp] theorem State.pinSet_waiting (p : Pin) (s : State) : (s.pinSet p).waiting = s.waiting := rfl
@[simp] theorem State.pinSet_pos (p : Pin) (s : State) : (s.pinSet p).pos = s.pos := rfl
@[simp] theorem State.pinSet_inputs (p : Pin) (s : State) : (s.pinSet p).inputs = s.inputs := rfl
@[simp] theorem State.pinSet_answers (p : Pin) (s : State) : (s.pinSet p).answers = s.answers := rfl
@[simp] theorem State.pinSet_drawn (p : Pin) (s : State) : (s.pinSet p).drawn = s.drawn := rfl
@[simp] theorem State.pinSet_trace (p : Pin) (s : State) : (s.pinSet p).trace = s.trace ++ [.pinSet p] := rfl
@[simp] theorem State.pinSet_responses (p : Pin) (s : State) : (s.pinSet p).responses = s.responses := rfl
@[simp] theorem State.pinSet_readings (p : Pin) (s : State) : (s.pinSet p).readings = s.readings := rfl
@[simp] theorem State.pinSet_unit (p : Pin) (s : State) : (s.pinSet p).unit = s.unit := rfl
@[simp] theorem State.pinSet_nextAnswer (p : Pin) (s : State) : (s.pinSet p).nextAnswer = s.nextAnswer := rfl

@[simp] theorem State.pinClear_regs (p : Pin) (s : State) : (s.pinClear p).regs = s.regs := rfl
@[simp] theorem State.pinClear_bound (p : Pin) (s : State) : (s.pinClear p).bound = s.bound := rfl
@[simp] theorem State.pinClear_line (p : Pin) (s : State) : (s.pinClear p).line = s.line.drive p .low := rfl
@[simp] theorem State.pinClear_fault (p : Pin) (s : State) : (s.pinClear p).fault = s.fault := rfl
@[simp] theorem State.pinClear_waiting (p : Pin) (s : State) : (s.pinClear p).waiting = s.waiting := rfl
@[simp] theorem State.pinClear_pos (p : Pin) (s : State) : (s.pinClear p).pos = s.pos := rfl
@[simp] theorem State.pinClear_inputs (p : Pin) (s : State) : (s.pinClear p).inputs = s.inputs := rfl
@[simp] theorem State.pinClear_answers (p : Pin) (s : State) : (s.pinClear p).answers = s.answers := rfl
@[simp] theorem State.pinClear_drawn (p : Pin) (s : State) : (s.pinClear p).drawn = s.drawn := rfl
@[simp] theorem State.pinClear_trace (p : Pin) (s : State) : (s.pinClear p).trace = s.trace ++ [.pinClear p] := rfl
@[simp] theorem State.pinClear_responses (p : Pin) (s : State) : (s.pinClear p).responses = s.responses := rfl
@[simp] theorem State.pinClear_readings (p : Pin) (s : State) : (s.pinClear p).readings = s.readings := rfl
@[simp] theorem State.pinClear_unit (p : Pin) (s : State) : (s.pinClear p).unit = s.unit := rfl
@[simp] theorem State.pinClear_nextAnswer (p : Pin) (s : State) : (s.pinClear p).nextAnswer = s.nextAnswer := rfl

@[simp] theorem State.drawAnswer_regs (s : State) : s.drawAnswer.regs = s.regs := rfl
@[simp] theorem State.drawAnswer_bound (s : State) : s.drawAnswer.bound = s.bound := rfl
@[simp] theorem State.drawAnswer_line (s : State) : s.drawAnswer.line = s.line := rfl
@[simp] theorem State.drawAnswer_fault (s : State) : s.drawAnswer.fault = s.fault := rfl
@[simp] theorem State.drawAnswer_waiting (s : State) : s.drawAnswer.waiting = s.waiting := rfl
@[simp] theorem State.drawAnswer_pos (s : State) : s.drawAnswer.pos = s.pos := rfl
@[simp] theorem State.drawAnswer_inputs (s : State) : s.drawAnswer.inputs = s.inputs := rfl
@[simp] theorem State.drawAnswer_answers (s : State) : s.drawAnswer.answers = s.answers.tail := rfl
@[simp] theorem State.drawAnswer_drawn (s : State) : s.drawAnswer.drawn = s.drawn + 1 := rfl
@[simp] theorem State.drawAnswer_trace (s : State) : s.drawAnswer.trace = s.trace := rfl
@[simp] theorem State.drawAnswer_responses (s : State) : s.drawAnswer.responses = s.responses := rfl
@[simp] theorem State.drawAnswer_readings (s : State) : s.drawAnswer.readings = s.readings := rfl
@[simp] theorem State.drawAnswer_unit (s : State) : s.drawAnswer.unit = s.unit := rfl

@[simp] theorem State.transmit_regs (f : Frame) (s : State) : (s.transmit f).regs = s.regs := rfl
@[simp] theorem State.transmit_bound (f : Frame) (s : State) : (s.transmit f).bound = s.bound := rfl
@[simp] theorem State.transmit_line (f : Frame) (s : State) : (s.transmit f).line = s.line := rfl
@[simp] theorem State.transmit_fault (f : Frame) (s : State) : (s.transmit f).fault = s.fault := rfl
@[simp] theorem State.transmit_waiting (f : Frame) (s : State) : (s.transmit f).waiting = if s.nextAnswer = .never then some f else s.waiting := rfl
@[simp] theorem State.transmit_pos (f : Frame) (s : State) : (s.transmit f).pos = s.pos := rfl
@[simp] theorem State.transmit_inputs (f : Frame) (s : State) : (s.transmit f).inputs = s.inputs := rfl
@[simp] theorem State.transmit_answers (f : Frame) (s : State) : (s.transmit f).answers = s.answers.tail := rfl
@[simp] theorem State.transmit_drawn (f : Frame) (s : State) : (s.transmit f).drawn = s.drawn + 1 := rfl
@[simp] theorem State.transmit_trace (f : Frame) (s : State) : (s.transmit f).trace = s.trace ++ [.tx f s.nextAnswer] := rfl
@[simp] theorem State.transmit_responses (f : Frame) (s : State) : (s.transmit f).responses = s.responses := rfl
@[simp] theorem State.transmit_readings (f : Frame) (s : State) : (s.transmit f).readings = s.readings := rfl
@[simp] theorem State.transmit_unit (f : Frame) (s : State) : (s.transmit f).unit = s.unit := rfl

@[simp] theorem State.mark_regs (m : Mark) (s : State) : (s.mark m).regs = s.regs := rfl
@[simp] theorem State.mark_bound (m : Mark) (s : State) : (s.mark m).bound = s.bound := rfl
@[simp] theorem State.mark_line (m : Mark) (s : State) : (s.mark m).line = s.line := rfl
@[simp] theorem State.mark_fault (m : Mark) (s : State) : (s.mark m).fault = some m := rfl
@[simp] theorem State.mark_waiting (m : Mark) (s : State) : (s.mark m).waiting = s.waiting := rfl
@[simp] theorem State.mark_pos (m : Mark) (s : State) : (s.mark m).pos = s.pos := rfl
@[simp] theorem State.mark_inputs (m : Mark) (s : State) : (s.mark m).inputs = s.inputs := rfl
@[simp] theorem State.mark_answers (m : Mark) (s : State) : (s.mark m).answers = s.answers := rfl
@[simp] theorem State.mark_drawn (m : Mark) (s : State) : (s.mark m).drawn = s.drawn := rfl
@[simp] theorem State.mark_trace (m : Mark) (s : State) : (s.mark m).trace = s.trace := rfl
@[simp] theorem State.mark_responses (m : Mark) (s : State) : (s.mark m).responses = s.responses := rfl
@[simp] theorem State.mark_readings (m : Mark) (s : State) : (s.mark m).readings = s.readings := rfl
@[simp] theorem State.mark_unit (m : Mark) (s : State) : (s.mark m).unit = s.unit := rfl
@[simp] theorem State.mark_nextAnswer (m : Mark) (s : State) : (s.mark m).nextAnswer = s.nextAnswer := rfl

@[simp] theorem State.respond_regs (r : Response) (s : State) : (s.respond r).regs = s.regs := rfl
@[simp] theorem State.respond_bound (r : Response) (s : State) : (s.respond r).bound = s.bound := rfl
@[simp] theorem State.respond_line (r : Response) (s : State) : (s.respond r).line = s.line := rfl
@[simp] theorem State.respond_fault (r : Response) (s : State) : (s.respond r).fault = s.fault := rfl
@[simp] theorem State.respond_waiting (r : Response) (s : State) : (s.respond r).waiting = s.waiting := rfl
@[simp] theorem State.respond_pos (r : Response) (s : State) : (s.respond r).pos = s.pos := rfl
@[simp] theorem State.respond_inputs (r : Response) (s : State) : (s.respond r).inputs = s.inputs := rfl
@[simp] theorem State.respond_answers (r : Response) (s : State) : (s.respond r).answers = s.answers := rfl
@[simp] theorem State.respond_drawn (r : Response) (s : State) : (s.respond r).drawn = s.drawn := rfl
@[simp] theorem State.respond_trace (r : Response) (s : State) : (s.respond r).trace = s.trace := rfl
@[simp] theorem State.respond_responses (r : Response) (s : State) : (s.respond r).responses = s.responses ++ [r] := rfl
@[simp] theorem State.respond_readings (r : Response) (s : State) : (s.respond r).readings = s.readings := rfl
@[simp] theorem State.respond_unit (r : Response) (s : State) : (s.respond r).unit = s.unit := rfl
@[simp] theorem State.respond_nextAnswer (r : Response) (s : State) : (s.respond r).nextAnswer = s.nextAnswer := rfl

@[simp] theorem State.mapRegs_regs (f : RegFile → RegFile) (s : State) : (s.mapRegs f).regs = f s.regs := rfl
@[simp] theorem State.mapRegs_bound (f : RegFile → RegFile) (s : State) : (s.mapRegs f).bound = s.bound := rfl
@[simp] theorem State.mapRegs_line (f : RegFile → RegFile) (s : State) : (s.mapRegs f).line = s.line := rfl
@[simp] theorem State.mapRegs_fault (f : RegFile → RegFile) (s : State) : (s.mapRegs f).fault = s.fault := rfl
@[simp] theorem State.mapRegs_waiting (f : RegFile → RegFile) (s : State) : (s.mapRegs f).waiting = s.waiting := rfl
@[simp] theorem State.mapRegs_pos (f : RegFile → RegFile) (s : State) : (s.mapRegs f).pos = s.pos := rfl
@[simp] theorem State.mapRegs_inputs (f : RegFile → RegFile) (s : State) : (s.mapRegs f).inputs = s.inputs := rfl
@[simp] theorem State.mapRegs_answers (f : RegFile → RegFile) (s : State) : (s.mapRegs f).answers = s.answers := rfl
@[simp] theorem State.mapRegs_drawn (f : RegFile → RegFile) (s : State) : (s.mapRegs f).drawn = s.drawn := rfl
@[simp] theorem State.mapRegs_trace (f : RegFile → RegFile) (s : State) : (s.mapRegs f).trace = s.trace := rfl
@[simp] theorem State.mapRegs_responses (f : RegFile → RegFile) (s : State) : (s.mapRegs f).responses = s.responses := rfl
@[simp] theorem State.mapRegs_readings (f : RegFile → RegFile) (s : State) : (s.mapRegs f).readings = s.readings := rfl
@[simp] theorem State.mapRegs_unit (f : RegFile → RegFile) (s : State) : (s.mapRegs f).unit = s.unit := rfl
@[simp] theorem State.mapRegs_nextAnswer (f : RegFile → RegFile) (s : State) : (s.mapRegs f).nextAnswer = s.nextAnswer := rfl

@[simp] theorem State.bind_regs (s : State) : s.bind.regs = s.regs := rfl
@[simp] theorem State.bind_bound (s : State) : s.bind.bound = true := rfl
@[simp] theorem State.bind_line (s : State) : s.bind.line = s.line := rfl
@[simp] theorem State.bind_fault (s : State) : s.bind.fault = s.fault := rfl
@[simp] theorem State.bind_waiting (s : State) : s.bind.waiting = s.waiting := rfl
@[simp] theorem State.bind_pos (s : State) : s.bind.pos = s.pos := rfl
@[simp] theorem State.bind_inputs (s : State) : s.bind.inputs = s.inputs := rfl
@[simp] theorem State.bind_answers (s : State) : s.bind.answers = s.answers := rfl
@[simp] theorem State.bind_drawn (s : State) : s.bind.drawn = s.drawn := rfl
@[simp] theorem State.bind_trace (s : State) : s.bind.trace = s.trace := rfl
@[simp] theorem State.bind_responses (s : State) : s.bind.responses = s.responses := rfl
@[simp] theorem State.bind_readings (s : State) : s.bind.readings = s.readings := rfl
@[simp] theorem State.bind_unit (s : State) : s.bind.unit = s.unit := rfl
@[simp] theorem State.bind_nextAnswer (s : State) : s.bind.nextAnswer = s.nextAnswer := rfl

@[simp] theorem State.powerUp_unit (n : Nat) : (State.powerUp n).unit = n := rfl
@[simp] theorem State.powerUp_zero : State.powerUp 0 = State.reset := rfl
@[simp] theorem State.powerUp_nextAnswer (n : Nat) :
    (State.powerUp n).nextAnswer = Config.transportAnswer n 0 := rfl

end Sys2Proof.Machine
end

