-- ==== Sys2Proof/Laws/Ops.lean ====
section
/-! SUPPORT. What each shared operation can do, said once: the frame transaction, sequencing, the end of
a request, one instruction, one step. -/

namespace Sys2Proof.Machine

/-! Sequencing -/

@[simp] theorem Ended.ok_andThen (s : State) (k : State → Ended) : (Ended.ok s).andThen k = k s := rfl

@[simp] theorem Ended.failed_andThen (s : State) (k : State → Ended) :
    (Ended.failed s).andThen k = .failed s := rfl

@[simp] theorem Ended.faulted_andThen (m : Mark) (s : State) (k : State → Ended) :
    (Ended.faulted m s).andThen k = .faulted m s := rfl

@[simp] theorem Ended.stuck_andThen (s : State) (k : State → Ended) :
    (Ended.stuck s).andThen k = .stuck s := rfl

@[simp] theorem requireBound_bound {s : State} (h : s.bound = true) (k : State → Ended) :
    requireBound s k = k s := by simp [requireBound, h]

@[simp] theorem requireBound_unbound {s : State} (h : s.bound = false) (k : State → Ended) :
    requireBound s k = .faulted .notBound s := by simp [requireBound, h]

/-! The frame transaction (R109) -/

theorem sendFrame_ok {s : State} (ct : CodeTable) (k : Kind) (a : Address) (p : Half) (h : s.nextAnswer = .ok) :
    sendFrame ct k a p s = .ok ((s.selLow.transmit (encodeFrame ct k a p)).selHigh) := by
  simp [sendFrame, h]

theorem sendFrame_fail {s : State} (ct : CodeTable) (k : Kind) (a : Address) (p : Half) (h : s.nextAnswer = .fail) :
    sendFrame ct k a p s = .failed ((s.selLow.transmit (encodeFrame ct k a p)).selHigh) := by
  simp [sendFrame, h]

theorem sendFrame_never {s : State} (ct : CodeTable) (k : Kind) (a : Address) (p : Half) (h : s.nextAnswer = .never) :
    sendFrame ct k a p s = .stuck (s.selLow.transmit (encodeFrame ct k a p)) := by
  simp [sendFrame, h]

/-- Everything a frame transaction can do. -/
theorem sendFrame_cases (ct : CodeTable) (k : Kind) (a : Address) (p : Half) (s : State) :
    (s.nextAnswer = .ok ∧
      sendFrame ct k a p s = .ok ((s.selLow.transmit (encodeFrame ct k a p)).selHigh)) ∨
    (s.nextAnswer = .fail ∧
      sendFrame ct k a p s = .failed ((s.selLow.transmit (encodeFrame ct k a p)).selHigh)) ∨
    (s.nextAnswer = .never ∧
      sendFrame ct k a p s = .stuck (s.selLow.transmit (encodeFrame ct k a p))) := by
  cases h : s.nextAnswer
  · exact .inl ⟨rfl, sendFrame_ok ct k a p h⟩
  · exact .inr (.inl ⟨rfl, sendFrame_fail ct k a p h⟩)
  · exact .inr (.inr ⟨rfl, sendFrame_never ct k a p h⟩)

/-! Answers -/

theorem nextAnswer_cons {s : State} {r : Answer} {rest : List Answer} (h : s.answers = r :: rest) :
    s.nextAnswer = r := by simp [State.nextAnswer, h]

@[simp] theorem nextAnswer_selHigh_transmit (s : State) (f : Frame) :
    ((s.transmit f).selHigh).nextAnswer = s.drawAnswer.nextAnswer := rfl

@[simp] theorem nextAnswer_drawAnswer_selLow (s : State) :
    s.selLow.drawAnswer.nextAnswer = s.drawAnswer.nextAnswer := rfl

/-! The end of a request -/

theorem runRequest_running {body : State → Ended} {s : State} (hf : s.fault = none)
    (hw : s.waiting = none) : runRequest body s = .next (body s).settle := by
  simp [runRequest, hf, hw]

/-- An instruction answers a next state exactly in a state that is neither marked nor stuck. -/
theorem runRequest_next {body : State → Ended} {s t : State} (h : runRequest body s = .next t) :
    s.fault = none ∧ s.waiting = none ∧ t = (body s).settle := by
  unfold runRequest at h
  split at h
  · cases h
  · split at h
    · cases h
    · next hf _ hw => exact ⟨hf, hw, by cases h; rfl⟩

@[simp] theorem running_iff (s : State) : s.running = true ↔ s.fault = none ∧ s.waiting = none := by
  simp [State.running]

theorem retire_running {s : State} (hf : s.fault = none) (hw : s.waiting = none) :
    s.retire = { s with inputs := s.inputs.tail, pos := s.pos + 1 } := by
  simp [State.retire, State.running, hf, hw]

theorem retire_stopped {s : State} (h : s.running = false) : s.retire = s := by
  simp [State.retire, h]

/-- Retiring an input changes the inputs and the position only. -/
theorem retire_frame (s : State) :
    s.retire.regs = s.regs ∧ s.retire.bound = s.bound ∧ s.retire.line = s.line ∧
    s.retire.fault = s.fault ∧ s.retire.waiting = s.waiting ∧ s.retire.answers = s.answers ∧
    s.retire.drawn = s.drawn ∧ s.retire.trace = s.trace ∧ s.retire.responses = s.responses ∧
    s.retire.readings = s.readings ∧ s.retire.unit = s.unit := by
  unfold State.retire
  split <;> simp

/-! One instruction -/

/-- Everything an instruction over a table of codes, that answers a next state, can do. -/
theorem execWith_next {ct : CodeTable} {i : Instr} {s t : State} (h : execWith ct i s = .next t) :
    s.fault = none ∧ s.waiting = none ∧ t = (bodyOf ct i s).settle := runRequest_next h

theorem exec_eq_runRequest (i : Instr) (s : State) : exec i s = runRequest (bodyOf codes i) s := by
  cases i <;> rfl

theorem exec_running {i : Instr} {s : State} (hf : s.fault = none) (hw : s.waiting = none) :
    exec i s = .next (bodyOf codes i s).settle := by
  rw [exec_eq_runRequest, runRequest_running hf hw]

/-- Everything an instruction that answers a next state can do. -/
theorem exec_next {i : Instr} {s t : State} (h : exec i s = .next t) :
    s.fault = none ∧ s.waiting = none ∧ t = (bodyOf codes i s).settle :=
  runRequest_next (exec_eq_runRequest i s ▸ h)

/-! The state read port -/

/-- Everything a read of the state port can do. -/
theorem servePort_cases (sel : ReadSel) (s : State) :
    (∃ vs, readFields s.regs (ReadSel.fields sel) = some vs ∧
      servePort sel s = { s with readings := s.readings ++ [vs], inputs := s.inputs.tail }) ∨
    (readFields s.regs (ReadSel.fields sel) = none ∧ servePort sel s = s.mark .unwritten) := by
  cases h : readFields s.regs (ReadSel.fields sel) with
  | some vs => exact .inl ⟨vs, rfl, by simp [servePort, h]⟩
  | none => exact .inr ⟨rfl, by simp [servePort, h]⟩

/-! One step -/

/-- Everything taking the next input can do: serve the read port, refuse at the boundary, or run the
decoded instruction and retire it. -/
theorem serve_next {ε : Type} {read : PortItem → Except ε Instr}
    {run : Instr → State → Host.Outcome State Fault Refusal} {s t : State} (h : serve read run s = .next t) :
    s.fault = none ∧ s.waiting = none ∧
    ((∃ sel rest, s.inputs = .read sel :: rest ∧ t = servePort sel s) ∨
     (∃ item rest e, s.inputs = .present item :: rest ∧ read item = .error e ∧ t = s.mark .refused) ∨
     (∃ item rest i u, s.inputs = .present item :: rest ∧ read item = .ok i ∧
        run i s = .next u ∧ t = u.retire)) := by
  unfold serve at h
  split at h
  · cases h
  · next hf =>
    split at h
    · cases h
    · next hw =>
      refine ⟨hf, hw, ?_⟩
      split at h
      · cases h
      · next sel rest hi => exact .inl ⟨sel, rest, hi, by cases h; rfl⟩
      · next item rest hi =>
        split at h
        · next e he => exact .inr (.inl ⟨item, rest, e, hi, he, by cases h; rfl⟩)
        · next i hd =>
          split at h
          · next u hu => exact .inr (.inr ⟨item, rest, i, u, hi, hd, hu, by cases h; rfl⟩)
          · cases h
          · cases h

/-- Everything a step that answers a next state can do. -/
theorem step_next {s t : State} (h : step s = .next t) :
    s.fault = none ∧ s.waiting = none ∧
    ((∃ sel rest, s.inputs = .read sel :: rest ∧ t = servePort sel s) ∨
     (∃ item rest e, s.inputs = .present item :: rest ∧ decode codes item = .error e ∧
        t = s.mark .refused) ∨
     (∃ item rest i u, s.inputs = .present item :: rest ∧ decode codes item = .ok i ∧
        exec i s = .next u ∧ t = u.retire)) := serve_next h

/-- Everything a step over a table of codes, that answers a next state, can do. -/
theorem stepWith_next {ct : CodeTable} {s t : State} (h : stepWith ct s = .next t) :
    s.fault = none ∧ s.waiting = none ∧
    ((∃ sel rest, s.inputs = .read sel :: rest ∧ t = servePort sel s) ∨
     (∃ item rest e, s.inputs = .present item :: rest ∧ decode ct item = .error e ∧
        t = s.mark .refused) ∨
     (∃ item rest i u, s.inputs = .present item :: rest ∧ decode ct item = .ok i ∧
        execWith ct i s = .next u ∧ t = u.retire)) := serve_next h

/-- A property that serving the port, marking, retiring and every instruction keep, every step keeps. -/
theorem step_keeps {P : State → Prop} (port : ∀ sel s, P s → P (servePort sel s))
    (mark : ∀ m s, P s → P (s.mark m)) (retire : ∀ s, P s → P s.retire)
    (instr : ∀ i s t, P s → exec i s = .next t → P t) {s t : State} (hs : P s)
    (h : step s = .next t) : P t := by
  obtain ⟨-, -, ⟨sel, -, -, rfl⟩ | ⟨-, -, -, -, -, rfl⟩ | ⟨-, -, i, u, -, -, hu, rfl⟩⟩ := step_next h
  · exact port sel s hs
  · exact mark _ s hs
  · exact retire u (instr i s u hs hu)

end Sys2Proof.Machine
end

