-- ==== Sys2Proof/Laws/PerInstr.lean ====
section
/-! SUPPORT. A fact about every instruction as syntax: what its encoding is spelled with lies in the closed
types of 30_encoding.md R80, in the spec's own numbers (WellFormed.lean). -/

namespace Sys2Proof.Laws.EncodesWellFormed

open Sys2Proof.Machine

/-- The encoding of an instruction is an item the spec's numbers admit. -/
def Statement (i : Instr) : Prop := (encode codes i).wf = true

/-- A composed frame has three bytes, clear top bits and a defined address. -/
theorem encodedFrame_wf (k : Kind) (a : Address) (p : Half) :
    (PortItem.frame (encodeFrame codes k a p).bytes).wf = true := by
  have top : (encodeFrame codes k a p).b0.extractLsb' 6 2 = 0#2 := frameTop_encodeFrame k a p
  have addr : (encodeFrame codes k a p).b0.extractLsb' 0 3 = codes.addr a := frameAddrCode_encodeFrame k a p
  simp only [PortItem.wf, Frame.bytes, wfFrame, top, addr]
  cases a <;> decide

theorem kWrite (a : Address) (p : Half) : Statement (.kWrite a p) := encodedFrame_wf _ a p

theorem kSwupd (a : Address) (p : Half) : Statement (.kSwupd a p) := encodedFrame_wf _ a p

theorem kWrupdAll (a : Address) (p : Half) : Statement (.kWrupdAll a p) := encodedFrame_wf _ a p

theorem kWrupd (a : Address) (p : Half) : Statement (.kWrupd a p) := encodedFrame_wf _ a p

theorem kPower (a : Address) (p : Half) : Statement (.kPower a p) := encodedFrame_wf _ a p

theorem kReset (a : Address) (p : Half) : Statement (.kReset a p) := encodedFrame_wf _ a p

theorem kLatch (a : Address) (p : Half) : Statement (.kLatch a p) := encodedFrame_wf _ a p

theorem kRef (a : Address) (p : Half) : Statement (.kRef a p) := encodedFrame_wf _ a p

theorem initDevice (mode : RefMode) : Statement (.initDevice mode) := by
  unfold Statement; cases mode <;> decide

theorem reset (mode : ResetMode) : Statement (.reset mode) := by
  unfold Statement; cases mode <;> decide

theorem switchReference (mode : RefMode) : Statement (.switchReference mode) := by
  unfold Statement; cases mode <;> decide

theorem switchPower (target : PowerTarget) (mode : PowerMode) : Statement (.switchPower target mode) := by
  unfold Statement; cases target <;> cases mode <;> decide

theorem switchGain (gainA gainB : Gain) : Statement (.switchGain gainA gainB) := by
  unfold Statement; cases gainA <;> cases gainB <;> decide

theorem switchLatchMode (latchA latchB : Latch) : Statement (.switchLatchMode latchA latchB) := by
  unfold Statement; cases latchA <;> cases latchB <;> decide

theorem pulseLatch : Statement .pulseLatch := rfl

theorem write (kind : Kind) (address : Address) (value : Half) : Statement (.write kind address value) := by
  have k : wfKind (codes.kind kind).toNat = true := by cases kind <;> decide
  have a : wfAddress (codes.addr address).toNat = true := by cases address <;> decide
  have v : wfValue value.toNat = true := by simp [wfValue, value.isLt]
  simp [Statement, encode, PortItem.wf, RawRequest.wf, k, a, v]

end Sys2Proof.Laws.EncodesWellFormed
end

