-- ==== Sys2Proof/Laws/Requests.lean ====
section
/-! SUPPORT. What the pseudocode of each request does on a bound block, and that it does nothing but raise
`Fault(NotBound)` on an unbound one. -/

namespace Sys2Proof.Machine

theorem frameRow_bound {ct : CodeTable} {s : State} (h : s.bound = true) (k : Kind) (a : Address) (p : Half) :
    frameRow ct k a p s = sendFrame ct k a p s := by simp only [frameRow, requireBound_bound h]

theorem resetBody_bound {ct : CodeTable} {s : State} (h : s.bound = true) (m : ResetMode) :
    resetBody ct m s =
      (sendFrame ct .resetControl ct.addrReset (ct.rst m)
        ((s.pinSet .rst).pinSet .ldac).selHigh).andThen fun u =>
      .ok (u.mapRegs (RegFile.afterReset m)) := by
  simp only [resetBody, requireBound_bound h]

theorem switchReferenceBody_bound {ct : CodeTable} {s : State} (h : s.bound = true) (m : RefMode) :
    switchReferenceBody ct m s =
      (sendFrame ct .referenceControl ct.addrRef (ct.ref m) s).andThen fun u =>
      .ok (u.mapRegs fun r => (r.setRef m).setGains (gainDefault m) (gainDefault m)) := by
  simp only [switchReferenceBody, requireBound_bound h]

theorem switchGainBody_bound {ct : CodeTable} {s : State} (h : s.bound = true) (ga gb : Gain) :
    switchGainBody ct ga gb s =
      (sendFrame ct .plainWrite .gain (gainPayload ct ga gb) s).andThen fun u =>
      .ok (u.mapRegs (RegFile.setGains ga gb)) := by
  simp only [switchGainBody, requireBound_bound h]

theorem switchLatchBody_bound {ct : CodeTable} {s : State} (h : s.bound = true) (la lb : Latch) :
    switchLatchBody ct la lb s =
      (sendFrame ct .latchControl .all (latchPayload ct la lb) s).andThen fun u =>
      .ok (u.mapRegs (RegFile.setLatches la lb)) := by
  simp only [switchLatchBody, requireBound_bound h]

theorem pulseLatchBody_bound {s : State} (h : s.bound = true) :
    pulseLatchBody s = .ok ((s.pinClear .ldac).pinSet .ldac) := by
  simp only [pulseLatchBody, requireBound_bound h]

theorem writeBody_bound {ct : CodeTable} {s : State} (h : s.bound = true) (k : Kind) (a : Address) (v : Half) :
    writeBody ct k a v s = sendFrame ct k a v s := by simp only [writeBody, requireBound_bound h]

/-- `switch_power` that would read a field holding ⊥. -/
theorem switchPowerBody_unwritten {ct : CodeTable} {s : State} (h : s.bound = true) {t : PowerTarget} {m : PowerMode}
    (hr : resendNeeded t m s.regs = none) : switchPowerBody ct t m s = .faulted .unwritten s := by
  simp [switchPowerBody, h, hr]

/-- `switch_power` without the re-send. -/
theorem switchPowerBody_once {ct : CodeTable} {s : State} (h : s.bound = true) {t : PowerTarget} {m : PowerMode}
    (hr : resendNeeded t m s.regs = some false) :
    switchPowerBody ct t m s =
      (sendFrame ct .powerControl ct.addrPower (powerPayload ct t m) s).andThen fun u =>
      .ok (u.mapRegs (RegFile.setPower t m)) := by
  simp [switchPowerBody, h, hr]

/-- `switch_power` with the re-send. -/
theorem switchPowerBody_twice {ct : CodeTable} {s : State} (h : s.bound = true) {t : PowerTarget} {m : PowerMode}
    (hr : resendNeeded t m s.regs = some true) :
    switchPowerBody ct t m s =
      (sendFrame ct .powerControl ct.addrPower (powerPayload ct t m) s).andThen fun u =>
      switchReferenceBody ct .internal (u.mapRegs (RegFile.setPower t m)) := by
  simp [switchPowerBody, h, hr]

/-- The block that `initialize` hands to its step 2 is bound. -/
theorem initializeBody_eq (ct : CodeTable) (s : State) (m : RefMode) :
    initializeBody ct m s =
      (resetBody ct .all (s.bind.mapRegs RegFile.powerOn)).andThen (switchReferenceBody ct m) := rfl

/-- On an unbound block every instruction but `initialize` raises `Fault(NotBound)` and does nothing else. -/
theorem bodyOf_unbound {ct : CodeTable} {i : Instr} {s : State} (h : s.bound = false) (hi : ∀ m, i ≠ .initDevice m) :
    bodyOf ct i s = .faulted .notBound s := by
  cases i with
  | initDevice m => exact absurd rfl (hi m)
  | _ =>
    simp only [bodyOf, frameRow, resetBody, switchReferenceBody, switchPowerBody, switchGainBody,
      switchLatchBody, pulseLatchBody, writeBody, requireBound_unbound h]

end Sys2Proof.Machine
end

