-- ==== Sys2Proof/Tests/Slice0.lean ====
section
/-! SUPPORT. Tests of the model: expected results are the vectors of 95_test_vectors.md and the encodings
of 30_encoding.md; then a witness for every statement that has hypotheses. -/

namespace Sys2Proof.Tests

open Sys2Proof.Machine Sys2Proof.Claim

/-! Helpers -/

/-- A channel that `initialize` has left, with a power mode, a gain and a latch mode. -/
def chan (p : PowerMode) (g : Gain) (l : Latch) : ChannelRegs := ⟨some 0#16, some p, some g, some l⟩

/-- A bound block with this register file and these answers to come. -/
def bound (r : RegFile) (answers : List Answer) : State :=
  { State.reset with regs := r, bound := true, line := ⟨some .high, some .high, some .high⟩, answers := answers }

/-- `S_int`'s register file. -/
def rInt : RegFile := ⟨some .internal, chan .on .x2 .async, chan .on .x2 .async⟩

/-- `S_ext`'s register file. -/
def rExt : RegFile := ⟨some .external, chan .on .x1 .async, chan .on .x1 .async⟩

/-- The register file at V-I3's end. -/
def rHalf : RegFile :=
  ⟨none, ⟨some 0#16, some .on, none, none⟩, ⟨some 0#16, some .on, none, none⟩⟩

def sInt (answers : List Answer) : State := bound rInt answers
def sExt (answers : List Answer) : State := bound rExt answers
def sHalf (answers : List Answer) : State := bound rHalf answers

/-- What an instruction leaves, as far as a test looks. -/
structure Look where
  regs : RegFile
  line : Lines
  trace : List Event
  responses : List Response
  fault : Option Mark
  deriving DecidableEq

/-- Runs an instruction and looks. -/
def look (i : Instr) (s : State) : Option Look :=
  match exec i s with
  | .next t => some ⟨t.regs, t.line, t.trace, t.responses, t.fault⟩
  | .fault _ => none
  | .refused _ => none

def linesHigh : Lines := ⟨some .high, some .high, some .high⟩

/-- The events of one frame. -/
def bracket (b0 b1 b2 : Byte) (r : Answer) : List Event := [.selLow, .tx ⟨b0, b1, b2⟩ r, .selHigh]

/-! WellFormed smoke: an ill-formed item for each check -/

theorem test_wf_refuses_kind_off_grid : (PortItem.request (.write 0x09 0 0)).wf = false := by decide
theorem test_wf_refuses_kind_too_large : (PortItem.request (.write 0x40 0 0)).wf = false := by decide
theorem test_wf_refuses_reserved_address : (PortItem.request (.write 0 3 0)).wf = false := by decide
theorem test_wf_refuses_wide_value : (PortItem.request (.write 0 0 0x10000)).wf = false := by decide
theorem test_wf_refuses_no_target : (PortItem.request (.switchPower 0 0)).wf = false := by decide
theorem test_wf_refuses_power_mode : (PortItem.request (.switchPower 1 0x40)).wf = false := by decide
theorem test_wf_refuses_bit0_argument : (PortItem.request (.reset 2)).wf = false := by decide
theorem test_wf_refuses_bit1_argument : (PortItem.request (.switchGain 1 1)).wf = false := by decide
theorem test_wf_refuses_unlisted : (PortItem.request .unlisted).wf = false := by decide
theorem test_wf_refuses_short_frame : (PortItem.frame [0x00, 0x00]).wf = false := by decide
theorem test_wf_refuses_top_bits : (PortItem.frame [0x40, 0x00, 0x00]).wf = false := by decide
theorem test_wf_refuses_frame_address : (PortItem.frame [0x1C, 0x00, 0x00]).wf = false := by decide

/-! Decoding by name -/

theorem test_decode_refuses_reserved_address :
    decode codes (.request (.write 0x18 3 0)) = .error .reservedAddress := by rfl
theorem test_decode_refuses_kind : decode codes (.request (.write 0x19 0 0)) = .error .kindCode := by rfl
theorem test_decode_refuses_wide_value :
    decode codes (.request (.write 0x18 0 0x10000)) = .error .wideValue := by rfl
theorem test_decode_refuses_no_target : decode codes (.request (.switchPower 0 0x10)) = .error .noTarget := by rfl
theorem test_decode_refuses_top_bits : decode codes (.frame [0x80, 0x00, 0x00]) = .error .topBits := by rfl
theorem test_decode_refuses_long_frame :
    decode codes (.frame [0x00, 0x00, 0x00, 0x00]) = .error .frameLength := by rfl

/-! Decoding: words written out from the encodings of R76, R101 to R108, and records of R80 -/

theorem test_word_kWrite : decodeTableWord 24 0b000000010001001000110100 = some (.kWrite .chB 0x1234#16) := by decide
theorem test_word_kSwupd : decodeTableWord 24 0b000011110000000000000000 = some (.kSwupd .all 0x0000#16) := by decide
theorem test_word_kWrupdAll : decodeTableWord 24 0b000100000000000011111111 = some (.kWrupdAll .chA 0x00FF#16) := by decide
theorem test_word_kWrupd : decodeTableWord 24 0b000110011010101111001101 = some (.kWrupd .chB 0xABCD#16) := by decide
theorem test_word_kPower : decodeTableWord 24 0b001000101111111100000000 = some (.kPower .gain 0xFF00#16) := by decide
theorem test_word_kReset : decodeTableWord 24 0b001010100001001000110100 = some (.kReset .gain 0x1234#16) := by decide
theorem test_word_kLatch : decodeTableWord 24 0b001100011000000000000001 = some (.kLatch .chB 0x8001#16) := by decide
theorem test_word_kRef : decodeTableWord 24 0b001111111111111111111111 = some (.kRef .all 0xFFFF#16) := by decide
theorem test_word_initialize : decodeTableWord 24 0b001011110000000000000001 = some (.initDevice .external) := by decide
theorem test_word_reset : decodeTableWord 24 0b001011110000000000000000 = some (.reset .dacOnly) := by decide
theorem test_word_switchReference : decodeTableWord 24 0b001111110000000000000001 = some (.switchReference .internal) := by decide
theorem test_word_switchPower : decodeTableWord 24 0b001001110000000000100010 = some (.switchPower .b .powerDown100k) := by decide
theorem test_word_switchGain : decodeTableWord 24 0b000000100000000000000010 = some (.switchGain .x2 .x1) := by decide
theorem test_word_switchLatchMode : decodeTableWord 24 0b001101110000000000000001 = some (.switchLatchMode .sync .async) := by decide
theorem test_word_pulseLatch : decodeTableWord 0 0 = some .pulseLatch := by decide
theorem test_word_reserved_address : decodeTableWord 24 0b000111000000000000000000 = none := by decide
theorem test_word_top_bits : decodeTableWord 24 0b010000000000000000000000 = none := by decide
theorem test_record_write :
    decode codes (.request (.write 0x18 0x1 0xFFFF)) = .ok (.write .writeUpdateTarget .chB 0xFFFF#16) := by rfl
theorem test_record_initialize : decode codes (.request (.initDevice 1)) = .ok (.initDevice .internal) := by rfl
theorem test_record_reset : decode codes (.request (.reset 1)) = .ok (.reset .all) := by rfl

/-! The text syntax (R81) -/

theorem test_text_power : parseProgram codes "switch_power All, PowerDown_HiZ" = [.present (.request (.switchPower 3 0x30))] := by decide
theorem test_text_write :
    parseProgram codes "; raw\nwrite write-and-update-target, A, 0x8000\npulse_latch" =
      [.present (.request (.write 0x18 0 0x8000)), .present (.request .pulseLatch)] := by decide
theorem test_text_unlisted : parseProgram codes "switch_gain Gain3x, Gain1x" = [.present (.request .unlisted)] := by decide

/-! Instructions: the vectors of 95_test_vectors.md -/

theorem test_initialize_internal : -- V-I1
    look (.initDevice .internal) { State.reset with answers := [.ok, .ok] } =
      some ⟨rInt, linesHigh, [.pinSet .rst, .pinSet .ldac, .selHigh] ++ bracket 0x2F 0x00 0x01 .ok ++
        bracket 0x3F 0x00 0x01 .ok, [.ok], none⟩ := by decide

theorem test_initialize_fails_in_step_two : -- V-I3
    look (.initDevice .internal) { State.reset with answers := [.fail] } =
      some ⟨rHalf, linesHigh, [.pinSet .rst, .pinSet .ldac, .selHigh] ++ bracket 0x2F 0x00 0x01 .fail,
        [.transportFailure], none⟩ := by decide

def rX : RegFile := ⟨some .internal, chan .on .x1 .sync, chan .powerDown100k .x2 .async⟩

theorem test_reset_all : -- V-R1
    look (.reset .all) (bound rX [.ok]) =
      some ⟨⟨some .external, chan .on .x1 .async, chan .powerDown100k .x1 .async⟩, linesHigh,
        [.pinSet .rst, .pinSet .ldac, .selHigh] ++ bracket 0x2F 0x00 0x01 .ok, [.ok], none⟩ := by decide

theorem test_reset_unbound : -- V-R4
    exec (.reset .all) State.reset = .next { State.reset with fault := some .notBound } := by rfl

theorem test_switchReference_over_unwritten : -- V-F5
    look (.switchReference .internal) (sHalf [.ok]) =
      some ⟨⟨some .internal, ⟨some 0#16, some .on, some .x2, none⟩, ⟨some 0#16, some .on, some .x2, none⟩⟩,
        linesHigh, bracket 0x3F 0x00 0x01 .ok, [.ok], none⟩ := by decide

theorem test_switchReference_fails : -- V-F4
    look (.switchReference .external) (sInt [.fail]) =
      some ⟨rInt, linesHigh, bracket 0x3F 0x00 0x00 .fail, [.transportFailure], none⟩ := by decide

theorem test_switchPower_resend_fails : -- V-P12
    look (.switchPower .all .powerDown1k)
      (bound ⟨some .internal, chan .on .x1 .async, chan .on .x1 .async⟩ [.ok, .fail]) =
      some ⟨⟨some .internal, chan .powerDown1k .x1 .async, chan .powerDown1k .x1 .async⟩, linesHigh,
        bracket 0x27 0x00 0x13 .ok ++ bracket 0x3F 0x00 0x01 .fail, [.transportFailure], none⟩ := by decide

theorem test_switchPower_resends_when_already_off : -- V-P6
    look (.switchPower .b .powerDown1k)
      (bound ⟨some .internal, chan .powerDownHiZ .x2 .async, chan .powerDownHiZ .x2 .async⟩ [.ok, .ok]) =
      some ⟨⟨some .internal, chan .powerDownHiZ .x2 .async, chan .powerDown1k .x2 .async⟩, linesHigh,
        bracket 0x27 0x00 0x12 .ok ++ bracket 0x3F 0x00 0x01 .ok, [.ok], none⟩ := by decide

theorem test_switchGain : -- V-G2
    look (.switchGain .x1 .x2) (sInt [.ok]) =
      some ⟨⟨some .internal, chan .on .x1 .async, chan .on .x2 .async⟩, linesHigh,
        bracket 0x02 0x00 0x01 .ok, [.ok], none⟩ := by decide

theorem test_switchLatchMode : -- V-L2
    look (.switchLatchMode .sync .async) (sExt [.ok]) =
      some ⟨⟨some .external, chan .on .x1 .sync, chan .on .x1 .async⟩, linesHigh,
        bracket 0x37 0x00 0x01 .ok, [.ok], none⟩ := by decide

theorem test_pulseLatch : -- V-W1
    look .pulseLatch (sExt []) =
      some ⟨rExt, linesHigh, [.pinClear .ldac, .pinSet .ldac], [.ok], none⟩ := by decide

theorem test_write : -- V-W4
    look (.write .writeUpdateTarget .chB 0xFFFF#16) (sInt [.ok]) =
      some ⟨rInt, linesHigh, bracket 0x19 0xFF 0xFF .ok, [.ok], none⟩ := by decide

theorem test_write_meaningless_pair : -- V-W7
    look (.write .resetControl .gain 0x1234#16) (sInt [.ok]) =
      some ⟨rInt, linesHigh, bracket 0x2A 0x12 0x34 .ok, [.ok], none⟩ := by decide

/-- The frame rows of the examples and vectors of 40_encoder.md and V-E1 to V-E8. -/
theorem test_frame_rows :
    look (.kWrite .gain 0x0003#16) (sInt [.ok]) =
      some ⟨rInt, linesHigh, bracket 0x02 0x00 0x03 .ok, [.ok], none⟩ ∧
    look (.kSwupd .all 0x0000#16) (sInt [.ok]) =
      some ⟨rInt, linesHigh, bracket 0x0F 0x00 0x00 .ok, [.ok], none⟩ ∧
    look (.kWrupdAll .chA 0xABCD#16) (sInt [.ok]) =
      some ⟨rInt, linesHigh, bracket 0x10 0xAB 0xCD .ok, [.ok], none⟩ ∧
    look (.kWrupd .chA 0x8000#16) (sInt [.ok]) =
      some ⟨rInt, linesHigh, bracket 0x18 0x80 0x00 .ok, [.ok], none⟩ ∧
    look (.kPower .gain 0xFF00#16) (sInt [.ok]) =
      some ⟨rInt, linesHigh, bracket 0x22 0xFF 0x00 .ok, [.ok], none⟩ ∧
    look (.kReset .gain 0x1234#16) (sInt [.ok]) =
      some ⟨rInt, linesHigh, bracket 0x2A 0x12 0x34 .ok, [.ok], none⟩ ∧
    look (.kLatch .chB 0x8001#16) (sInt [.ok]) =
      some ⟨rInt, linesHigh, bracket 0x31 0x80 0x01 .ok, [.ok], none⟩ ∧
    look (.kRef .all 0xFFFF#16) (sInt [.ok]) =
      some ⟨rInt, linesHigh, bracket 0x3F 0xFF 0xFF .ok, [.ok], none⟩ := by decide

/-- V-S3: a transmit that is never answered. -/
theorem test_stuck_frame :
    look (.write .referenceControl .all 0x0001#16) (sInt [.never]) =
      some ⟨rInt, ⟨some .low, some .high, some .high⟩, [.selLow, .tx ⟨0x3F, 0x00, 0x01⟩ .never], [], none⟩ := by
  decide

/-- V-W9: the write with the reserved address is refused, and the program position stays. -/
theorem test_refused_write :
    step { sInt [] with inputs := [.present (.request (.write 0 3 0))] } =
      .next { sInt [] with inputs := [.present (.request (.write 0 3 0))], fault := some .refused } := by rfl

/-- V-Q3 and V-Q2: reading a written field, and one that holds ⊥. -/
theorem test_read_port :
    step { sHalf [] with inputs := [.read (.one (.pwr .a))] } =
      .next { sHalf [] with readings := [[.pwr .on]] } ∧
    step { sHalf [] with inputs := [.read (.one (.gain .a))] } =
      .next { sHalf [] with inputs := [.read (.one (.gain .a))], fault := some .unwritten } := ⟨rfl, rfl⟩

/-- A word of the table runs as the first instruction after power-up. -/
theorem test_fetch_word :
    step (State.reset.withFetchWord 24 0x3F0001) =
      .next { State.reset.withFetchWord 24 0x3F0001 with fault := some .notBound } := by rfl

/-! Witnesses: concrete states and operands that meet the hypotheses of the statements -/

/-- An `initialize` about to run from power-up, with its answers fixed. -/
def sBegin : State :=
  { State.reset with inputs := [.present (.request (.initDevice 1))], answers := [.ok, .ok] }

/-- The states the one-frame rules speak of: bound, by the answer to come; and unbound. -/
theorem witness_ready_bound_by_answer :
    (Ready (sInt [.ok]) ∧ (sInt [.ok]).bound = true ∧ (sInt [.ok]).nextAnswer = .ok) ∧
    (Ready (sInt [.fail]) ∧ (sInt [.fail]).bound = true ∧ (sInt [.fail]).nextAnswer = .fail) ∧
    (Ready (sInt [.never]) ∧ (sInt [.never]).bound = true ∧ (sInt [.never]).nextAnswer = .never) ∧
    (Ready State.reset ∧ State.reset.bound = false) := by
  refine ⟨⟨⟨rfl, rfl⟩, rfl, rfl⟩, ⟨⟨rfl, rfl⟩, rfl, rfl⟩, ⟨⟨rfl, rfl⟩, rfl, rfl⟩, ⟨rfl, rfl⟩, rfl⟩

theorem witness_EncodeInvertsDecode :
    decode codes (.frame [0x19, 0xAB, 0xCD]) = .ok (.kWrupd .chB 0xABCD#16) ∧
    decode codes (.request (.write 0x38 7 0xFFFF)) = .ok (.write .referenceControl .all 0xFFFF#16) := ⟨rfl, rfl⟩

/-- A completed, a marked and a stuck instruction. -/
theorem witness_StepRunsDecodedInstruction :
    (Ready sBegin ∧ sBegin.inputs = [.present (.request (.initDevice 1))] ∧
      decode codes (.request (.initDevice 1)) = .ok (.initDevice .internal) ∧
      (∃ t, exec (.initDevice .internal) sBegin = .next t ∧ Ready t)) ∧
    (Ready { State.reset with inputs := [.present (.request .pulseLatch)] } ∧
      decode codes (.request .pulseLatch) = .ok .pulseLatch ∧
      (∃ t, exec .pulseLatch { State.reset with inputs := [.present (.request .pulseLatch)] } = .next t ∧
        ¬ Ready t)) :=
  ⟨⟨⟨rfl, rfl⟩, rfl, rfl, _, rfl, rfl, rfl⟩, ⟨rfl, rfl⟩, rfl, _, rfl, fun h => by cases h.1⟩

theorem witness_UnspellableRequestIsRefused :
    Ready { sInt [] with inputs := [.present (.request (.write 0 6 0))] } ∧
    (PortItem.request (.write 0 6 0)).wf = false ∧
    Ready { State.reset with inputs := [.present (.frame [0x40, 0x00, 0x00])] } ∧
    (PortItem.frame [0x40, 0x00, 0x00]).wf = false := ⟨⟨rfl, rfl⟩, rfl, ⟨rfl, rfl⟩, rfl⟩

theorem witness_MarkedStateTakesNoStep :
    (sBegin.mark .notBound).fault = some .notBound := rfl

theorem witness_StuckStateTakesNoStep :
    { sInt [] with waiting := some ⟨0x3F, 0x00, 0x01⟩ }.fault = none ∧
    { sInt [] with waiting := some ⟨0x3F, 0x00, 0x01⟩ }.waiting = some ⟨0x3F, 0x00, 0x01⟩ :=
  ⟨rfl, rfl⟩

/-- Every field written, and a field holding ⊥, for one field and for all. -/
theorem witness_ReadPortReturnsFields :
    Ready { sInt [] with inputs := [.read (.one .ref)] } ∧ fieldOf rInt .ref = some (.ref .internal) ∧
    Ready { sHalf [] with inputs := [.read (.one .ref)] } ∧ fieldOf rHalf .ref = none ∧
    Ready { sInt [] with inputs := [.read .all] } ∧
    (∀ f ∈ Field.values, (fieldOf rInt f).isSome = true) ∧
    Ready { sHalf [] with inputs := [.read .all] } ∧ fieldOf rHalf (.latch .b) = none := by
  refine ⟨⟨rfl, rfl⟩, rfl, ⟨rfl, rfl⟩, rfl, ⟨rfl, rfl⟩, by decide, ⟨rfl, rfl⟩, rfl⟩

/-- The answers of the two frames of `initialize` (and of `switch_power` with the re-send). -/
theorem witness_InitializeRule :
    Ready { State.reset with answers := [.ok, .ok] } ∧
    { State.reset with answers := [.ok, .ok] }.nextAnswer = .ok ∧
    { State.reset with answers := [.ok, .ok] }.drawAnswer.nextAnswer = .ok ∧
    { State.reset with answers := [.ok, .fail] }.drawAnswer.nextAnswer = .fail ∧
    { State.reset with answers := [.ok, .never] }.drawAnswer.nextAnswer = .never ∧
    { State.reset with answers := [.fail] }.nextAnswer = .fail ∧
    { State.reset with answers := [.never] }.nextAnswer = .never := ⟨⟨rfl, rfl⟩, rfl, rfl, rfl, rfl, rfl, rfl⟩

theorem witness_InitializeEstablishesBaseline :
    Ready sBegin ∧ sBegin.nextAnswer = .ok ∧ sBegin.drawAnswer.nextAnswer = .ok := ⟨⟨rfl, rfl⟩, rfl, rfl⟩

/-- The cases of `switch_power`: ⊥ power mode; all-off with ⊥, External and Internal reference; not all-off. -/
theorem witness_SwitchPowerRule :
    (powerCommit .a .on (RegFile.unwritten)).chB.pwr = none ∧
    ((powerCommit .all .powerDownHiZ rHalf).chA.pwr = some .powerDownHiZ ∧ rHalf.ref = none) ∧
    ((powerCommit .all .powerDown1k rExt).chB.pwr = some .powerDown1k ∧ rExt.ref = some .external) ∧
    ((powerCommit .all .powerDown100k rInt).chA.pwr = some .powerDown100k ∧ rInt.ref = some .internal) ∧
    ((powerCommit .a .powerDown1k rInt).chB.pwr = some .on) ∧
    Ready (bound RegFile.unwritten []) ∧ Ready (sHalf []) ∧ Ready (sExt [.ok]) ∧ Ready (sInt [.ok, .ok]) :=
  ⟨rfl, ⟨rfl, rfl⟩, ⟨rfl, rfl⟩, ⟨rfl, rfl⟩, rfl, ⟨rfl, rfl⟩, ⟨rfl, rfl⟩, ⟨rfl, rfl⟩, ⟨rfl, rfl⟩⟩

theorem witness_UnboundBlockRaisesNotBound :
    Ready State.reset ∧ State.reset.bound = false ∧ needsBound (.kRef .all 0#16) = true ∧
    needsBound (.write .plainWrite .chA 0#16) = true := ⟨⟨rfl, rfl⟩, rfl, rfl, rfl⟩

theorem witness_FaultComesBeforeAnyEvent :
    (∃ t, exec .pulseLatch State.reset = .next t ∧ t.fault ≠ none) ∧
    (∃ t, exec (.switchPower .all .powerDownHiZ) (sHalf []) = .next t ∧ t.fault ≠ none) :=
  ⟨⟨_, rfl, fun h => by cases h⟩, ⟨_, rfl, fun h => by cases h⟩⟩

theorem witness_FailedFrameLeavesRegistersUnchanged :
    Ready (sInt [.fail]) ∧ (sInt [.fail]).bound = true ∧ singleFrame (.switchGain .x1 .x1) = true ∧
    (sInt [.fail]).nextAnswer = .fail := ⟨⟨rfl, rfl⟩, rfl, rfl, rfl⟩

theorem witness_UnansweredFrameIsStuck :
    Ready (sInt [.never]) ∧ (sInt [.never]).bound = true ∧ singleFrame (.reset .all) = true ∧
    (sInt [.never]).nextAnswer = .never := ⟨⟨rfl, rfl⟩, rfl, rfl, rfl⟩

theorem witness_PulseLatchCannotFail : ∃ t, exec .pulseLatch (sExt []) = .next t := ⟨_, rfl⟩

/-- The three outcomes: a response, a mark, stuck (also for the statements about any `exec` that answers). -/
theorem witness_OneOutcomePerInstruction :
    (∃ t, exec (.switchGain .x1 .x1) (sInt [.ok]) = .next t ∧ Ready t) ∧
    (∃ t, exec .pulseLatch State.reset = .next t ∧ t.fault = some .notBound) ∧
    (∃ t, exec (.switchGain .x1 .x1) (sInt [.never]) = .next t ∧ t.waiting = some ⟨0x02, 0x00, 0x03⟩) :=
  ⟨⟨_, rfl, rfl, rfl⟩, ⟨_, rfl, rfl⟩, ⟨_, rfl, rfl⟩⟩

theorem witness_EventsAreOnlyAppended : ∃ t, exec (.initDevice .internal) sBegin = .next t := ⟨_, rfl⟩

theorem witness_InstructionLeavesCallerSide : ∃ t, exec (.reset .all) (sInt [.ok]) = .next t := ⟨_, rfl⟩

theorem witness_OnlyResetsWriteValue :
    (∃ t, exec (.initDevice .internal) sBegin = .next t ∧ (t.regs.ch .a).value ≠ (sBegin.regs.ch .a).value) ∧
    (∃ t, exec (.reset .dacOnly) (bound RegFile.unwritten [.ok]) = .next t ∧
      (t.regs.ch .b).value ≠ ((bound RegFile.unwritten [.ok]).regs.ch .b).value) :=
  ⟨⟨_, rfl, by decide⟩, ⟨_, rfl, by decide⟩⟩

theorem witness_OnlyInitializeAndSwitchPowerWritePower :
    (∃ t, exec (.initDevice .internal) sBegin = .next t ∧ (t.regs.ch .a).pwr ≠ (sBegin.regs.ch .a).pwr) ∧
    (∃ t, exec (.switchPower .b .powerDown1k) (sInt [.ok]) = .next t ∧
      (t.regs.ch .b).pwr ≠ ((sInt [.ok]).regs.ch .b).pwr) :=
  ⟨⟨_, rfl, by decide⟩, ⟨_, rfl, by decide⟩⟩

theorem witness_GainWriters :
    (∃ t, exec (.reset .all) (sInt [.ok]) = .next t ∧ (t.regs.ch .a).gain ≠ ((sInt [.ok]).regs.ch .a).gain) ∧
    (∃ t, exec (.switchReference .external) (sInt [.ok]) = .next t ∧
      (t.regs.ch .a).gain ≠ ((sInt [.ok]).regs.ch .a).gain) ∧
    (∃ t, exec (.initDevice .internal) sBegin = .next t ∧ (t.regs.ch .a).gain ≠ (sBegin.regs.ch .a).gain) ∧
    (∃ t, exec (.switchPower .all .powerDown1k) (bound ⟨some .internal, chan .on .x1 .async, chan .on .x1 .async⟩
        [.ok, .ok]) = .next t ∧ (t.regs.ch .a).gain ≠ some .x1) ∧
    (∃ t, exec (.switchGain .x1 .x2) (sInt [.ok]) = .next t ∧
      (t.regs.ch .a).gain ≠ ((sInt [.ok]).regs.ch .a).gain) :=
  ⟨⟨_, rfl, by decide⟩, ⟨_, rfl, by decide⟩, ⟨_, rfl, by decide⟩, ⟨_, rfl, by decide⟩, ⟨_, rfl, by decide⟩⟩

theorem witness_LatchWriters :
    (∃ t, exec (.reset .all) (bound rX [.ok]) = .next t ∧
      (t.regs.ch .a).latch ≠ ((bound rX [.ok]).regs.ch .a).latch) ∧
    (∃ t, exec (.initDevice .internal) sBegin = .next t ∧ (t.regs.ch .a).latch ≠ (sBegin.regs.ch .a).latch) ∧
    (∃ t, exec (.switchLatchMode .async .sync) (sInt [.ok]) = .next t ∧
      (t.regs.ch .b).latch ≠ ((sInt [.ok]).regs.ch .b).latch) :=
  ⟨⟨_, rfl, by decide⟩, ⟨_, rfl, by decide⟩, ⟨_, rfl, by decide⟩⟩

theorem witness_ReferenceWriters :
    (∃ t, exec (.reset .all) (sInt [.ok]) = .next t ∧ t.regs.ref ≠ (sInt [.ok]).regs.ref) ∧
    (∃ t, exec (.switchReference .external) (sInt [.ok]) = .next t ∧ t.regs.ref ≠ (sInt [.ok]).regs.ref) ∧
    (∃ t, exec (.initDevice .internal) sBegin = .next t ∧ t.regs.ref ≠ sBegin.regs.ref) :=
  ⟨⟨_, rfl, by decide⟩, ⟨_, rfl, by decide⟩, ⟨_, rfl, by decide⟩⟩

theorem witness_OnlyInitializeBinds :
    (∃ t, step { sInt [.ok] with inputs := [.present (.request (.reset 1))] } = .next t ∧
      { sInt [.ok] with inputs := [.present (.request (.reset 1))] }.bound = true) ∧
    (∃ t, exec (.initDevice .internal) sBegin = .next t ∧ t.bound ≠ sBegin.bound) :=
  ⟨⟨_, rfl, rfl⟩, ⟨_, rfl, by decide⟩⟩

theorem witness_ResetAllForgetsTheRegisterFile :
    (sInt [.ok]).nextAnswer = .ok ∧ (sExt [.ok]).nextAnswer = .ok ∧
    (sInt [.ok]).bound = true ∧ (sExt [.ok]).bound = true ∧
    (∃ t, exec (.reset .all) (sInt [.ok]) = .next t) ∧ (∃ t, exec (.reset .all) (sExt [.ok]) = .next t) ∧
    (sInt [.ok]).regs.chA.pwr = (sExt [.ok]).regs.chA.pwr ∧
    (sInt [.ok]).regs.chB.pwr = (sExt [.ok]).regs.chB.pwr ∧ (sInt [.ok]).regs ≠ (sExt [.ok]).regs :=
  ⟨rfl, rfl, rfl, rfl, ⟨_, rfl⟩, ⟨_, rfl⟩, rfl, rfl, by decide⟩

/-- With the re-send, and without it. -/
theorem witness_ResendExactlyAtAllOff :
    ((sInt [.ok, .ok]).bound = true ∧ (sInt [.ok, .ok]).nextAnswer = .ok ∧
      (sInt [.ok, .ok]).drawAnswer.nextAnswer = .ok) ∧
    (∃ t, exec (.switchPower .all .powerDownHiZ) (sInt [.ok, .ok]) = .next t ∧ t.fault = none) ∧
    (∃ t, exec (.switchPower .a .on) (sInt [.ok, .ok]) = .next t ∧ t.fault = none) :=
  ⟨⟨rfl, rfl, rfl⟩, ⟨_, rfl, rfl⟩, ⟨_, rfl, rfl⟩⟩

/-- A state that meets every invariant and takes a step that emits events. -/
theorem witness_invariants :
    LinesFollowTrace sBegin ∧ FramesInBrackets sBegin ∧ EmittedFramesInMap sBegin ∧
    ResetLineNeverCleared sBegin ∧ UnboundIsUntouched sBegin ∧ BoundHoldsBaseline sBegin ∧
    RefComesWithGains sBegin ∧ StuckHoldsSelect sBegin ∧ PositionCountsResponses sBegin ∧
    (∃ t, step sBegin = .next t ∧ t.trace.length = 9) := by
  refine ⟨rfl, rfl, (by intro _ _ h; cases h), (by intro h; cases h), (by intro _; exact ⟨rfl, rfl, rfl, rfl, rfl⟩),
    (by intro h; cases h), (by intro m h; cases h), (by intro h; exact absurd rfl h), rfl, _, rfl, rfl⟩

/-- A table of codes other than the default: the two reset modes with their codes exchanged. -/
def otherCodes : CodeTable :=
  { codes with rst := fun m => match m with | .dacOnly => 0x0001#16 | .all => 0x0000#16 }

theorem witness_EveryReadableCodeTableRoundTrips : otherCodes.WellFormed where
  kind_bits k := by cases k <;> decide
  kind x y := by cases x <;> cases y <;> decide
  addr x y := by cases x <;> cases y <;> decide
  rst x y := by cases x <;> cases y <;> decide
  ref x y := by cases x <;> cases y <;> decide
  pwrTarget x y := by cases x <;> cases y <;> decide
  pwrMode x y := by cases x <;> cases y <;> decide
  gain c x y := by cases c <;> cases x <;> cases y <;> decide
  latch c x y := by cases c <;> cases x <;> cases y <;> decide

/-- Over a table other than the default: an instruction that responds `Ok`, `switch_power` with the re-send
and without it, and an instruction that stops after the first of its two frames. -/
theorem witness_FramesFollowTheCodeTable :
    (∃ t, execWith otherCodes (.reset .all) (sInt [.ok]) = .next t ∧ t.responses = [.ok] ∧
      framesSent t.trace = [⟨0x2F#8, 0x00#8, 0x00#8⟩]) ∧
    (∃ t, execWith otherCodes (.switchPower .all .powerDownHiZ) (sInt [.ok, .ok]) = .next t ∧
      t.responses = [.ok] ∧ framesSent t.trace = [⟨0x27#8, 0x00#8, 0x33#8⟩, ⟨0x3F#8, 0x00#8, 0x01#8⟩]) ∧
    (∃ t, execWith otherCodes (.switchPower .a .on) (sInt [.ok]) = .next t ∧
      t.responses = [.ok] ∧ framesSent t.trace = [⟨0x27#8, 0x00#8, 0x01#8⟩]) ∧
    (∃ t, execWith otherCodes (.initDevice .internal) (sInt [.fail]) = .next t ∧
      framesSent t.trace = [⟨0x2F#8, 0x00#8, 0x00#8⟩]) :=
  ⟨⟨_, rfl, rfl, by decide⟩, ⟨_, rfl, rfl, by decide⟩, ⟨_, rfl, rfl, by decide⟩, ⟨_, rfl, by decide⟩⟩

/-- A completed, a marked and a stuck instruction. -/
theorem witness_CodesReachOnlyFrameBytes :
    (∃ t, execWith otherCodes (.reset .all) (sInt [.ok]) = .next t ∧ Ready t) ∧
    (∃ t, execWith otherCodes (.reset .all) State.reset = .next t ∧ t.fault = some .notBound) ∧
    (∃ t, execWith otherCodes (.reset .all) (sInt [.never]) = .next t ∧
      t.waiting = some ⟨0x2F, 0x00, 0x00⟩) :=
  ⟨⟨_, rfl, rfl, rfl⟩, ⟨_, rfl, rfl⟩, ⟨_, rfl, rfl⟩⟩

theorem witness_InstancesShareNothing :
    ∃ sys', stepInstance 1 [sInt [], sBegin] = some sys' := ⟨_, rfl⟩

theorem witness_InstancesPowerUpApart :
    (System.powerUp 2)[1]? = some { State.reset with unit := 1 } := rfl

/-- Two instances with different collaborators, of which the second takes a step. -/
theorem witness_StepKeepsInstancesApart :
    System.Apart [sInt [], { sBegin with unit := 1 }] ∧
    ∃ sys', stepInstance 1 [sInt [], { sBegin with unit := 1 }] = some sys' :=
  ⟨by unfold System.Apart; decide, _, rfl⟩

end Sys2Proof.Tests
end

section
/-! PROOFS. The command encoder (40_encoder.md R100): a kind code and an address code occupy disjoint bits
of byte 0, so composing them loses neither; and the frame transaction (R109). -/

namespace Sys2Proof.Encoder

open Sys2Proof.Machine Sys2Proof.Claim

/-! The codes, and the bits of byte 0 they occupy (30_encoding.md R70 to R72) -/

theorem codes_kind (k : Kind) : codes.kind k = kindBits k := by cases k <;> rfl

theorem codes_addr (a : Address) : (codes.addr a).setWidth 8 = addrBits a := by cases a <;> rfl

/-- A kind code lies in bits 5 to 3. -/
theorem kindBits_and_kindMask (k : Kind) : kindBits k &&& 0x38#8 = kindBits k := by
  cases k <;> decide

/-- An address code lies in bits 2 to 0. -/
theorem addrBits_and_addrMask (a : Address) : addrBits a &&& 0x07#8 = addrBits a := by
  cases a <;> decide

/-- A mask apart from bits 5 to 3 sees nothing of a kind code. -/
theorem kindBits_and_of_disjoint (k : Kind) {m : Byte} (h : 0x38#8 &&& m = 0#8) :
    kindBits k &&& m = 0#8 := by
  rw [← kindBits_and_kindMask, BitVec.and_assoc, h, BitVec.and_zero]

/-- A mask apart from bits 2 to 0 sees nothing of an address code. -/
theorem addrBits_and_of_disjoint (a : Address) {m : Byte} (h : 0x07#8 &&& m = 0#8) :
    addrBits a &&& m = 0#8 := by
  rw [← addrBits_and_addrMask, BitVec.and_assoc, h, BitVec.and_zero]

theorem kindBits_and_addrBits (k : Kind) (a : Address) : kindBits k &&& addrBits a = 0#8 := by
  have apart : 0x38#8 &&& addrBits a = 0#8 := by
    rw [BitVec.and_comm]
    exact addrBits_and_of_disjoint a (by decide)
  exact kindBits_and_of_disjoint k apart

/-! The composed frame (R100) -/

theorem encodeFrame_b0 (k : Kind) (a : Address) (p : Half) :
    (encodeFrame codes k a p).b0 = kindBits k ||| addrBits a := by
  rw [encodeFrame, codes_kind, codes_addr]

/-- The two codes share no bit, so the machine's OR is the rule's sum. -/
theorem encodeFrame_eq_frameOf (k : Kind) (a : Address) (p : Half) :
    encodeFrame codes k a p = frameOf (kindBits k) a p := by
  rw [frameOf, BitVec.add_eq_or_of_and_eq_zero _ _ (kindBits_and_addrBits k a),
    ← encodeFrame_b0 k a p]
  rfl

/-- A mask of byte 0 acts on the two codes apart. -/
theorem encodeFrame_b0_and (k : Kind) (a : Address) (p : Half) (m : Byte) :
    (encodeFrame codes k a p).b0 &&& m = kindBits k &&& m ||| addrBits a &&& m := by
  rw [encodeFrame_b0, BitVec.and_comm, BitVec.and_or_distrib_left, BitVec.and_comm m,
    BitVec.and_comm m]

theorem encodeFrame_b0_kind (k : Kind) (a : Address) (p : Half) :
    (encodeFrame codes k a p).b0 &&& 0x38#8 = kindBits k := by
  rw [encodeFrame_b0_and, kindBits_and_kindMask, addrBits_and_of_disjoint a (by decide),
    BitVec.or_zero]

theorem encodeFrame_b0_addr (k : Kind) (a : Address) (p : Half) :
    (encodeFrame codes k a p).b0 &&& 0x07#8 = addrBits a := by
  rw [encodeFrame_b0_and, addrBits_and_addrMask, kindBits_and_of_disjoint k (by decide),
    BitVec.zero_or]

theorem encodeFrame_b0_top (k : Kind) (a : Address) (p : Half) :
    (encodeFrame codes k a p).b0 &&& 0xC0#8 = 0#8 := by
  rw [encodeFrame_b0_and, kindBits_and_of_disjoint k (by decide),
    addrBits_and_of_disjoint a (by decide), BitVec.zero_or]

/-- The payload of R79 as a shift and an OR. -/
theorem shiftLeft_or_eq_framePayload (f : Frame) :
    (f.b1.setWidth 16 <<< 8) ||| f.b2.setWidth 16 = framePayload f := by
  rw [framePayload, BitVec.append_def, BitVec.shiftLeftZeroExtend_eq, BitVec.setWidth'_eq]

/-- Settles O1: the codes occupy disjoint bits of byte 0, and the payload is its two bytes joined. -/
theorem encoderComposesFrame : Obligations.EncoderComposesFrame := by
  intro k a p
  have payload := (shiftLeft_or_eq_framePayload _).trans (framePayload_encodeFrame k a p)
  exact ⟨encodeFrame_eq_frameOf k a p, encodeFrame_b0_kind k a p, encodeFrame_b0_addr k a p,
    encodeFrame_b0_top k a p, payload⟩

/-! The frame transaction (R109): the model's select bracket is the state the rule writes out -/

theorem bracket_eq_sent {s : State} (f : Frame) (h : s.nextAnswer = .ok) :
    (s.selLow.transmit f).selHigh = sent s f id := by
  simp [State.selHigh, State.transmit, h, sent]

/-- The bracket alone gives no response; the request it belongs to does (R202). -/
theorem bracket_eq_sendFailed {s : State} (f : Frame) (h : s.nextAnswer = .fail) :
    (s.selLow.transmit f).selHigh = { sendFailed s f with responses := s.responses } := by
  simp [State.selHigh, State.transmit, h, sendFailed]

theorem openBracket_eq_sendStuck {s : State} (f : Frame) (h : s.nextAnswer = .never) :
    s.selLow.transmit f = sendStuck s f := by
  simp [State.transmit, h, sendStuck]

/-- Settles O17, by the transport's answer. -/
theorem frameTransactionRule : Obligations.FrameTransactionRule := by
  intro k a p s
  obtain ⟨h, send⟩ | ⟨h, send⟩ | ⟨h, send⟩ := sendFrame_cases codes k a p s
  · simp only [h]
    rw [send, encodeFrame_eq_frameOf, bracket_eq_sent _ h]
  · simp only [h]
    rw [send, encodeFrame_eq_frameOf, bracket_eq_sendFailed _ h]
  · simp only [h]
    rw [send, encodeFrame_eq_frameOf, openBracket_eq_sendStuck _ h]

end Sys2Proof.Encoder
end

section
/-! PROOFS. The configuration requests (41_config_ops.md R130 to R135). Each is one or two frames, and what
follows a frame runs only if the transport answers it `Ok`: `afterFrame` says so once, and the rules are
what a request's pseudocode comes to in terms of it. -/

namespace Sys2Proof.ConfigRequests

open Sys2Proof.Machine Sys2Proof.Claim Sys2Proof.Encoder

/-! A frame, and what follows it (R109, R202, R207) -/

/-- How pseudocode ends that sends `f` from `s` and ends as `rest` once the transport has answered `Ok`. -/
def afterFrame (s : State) (f : Frame) (rest : Ended) : Ended :=
  match s.nextAnswer with
  | .ok => rest
  | .fail => .failed { sendFailed s f with responses := s.responses }
  | .never => .stuck (sendStuck s f)

theorem afterFrame_ok {s : State} (f : Frame) (rest : Ended) (h : s.nextAnswer = .ok) :
    afterFrame s f rest = rest := by simp only [afterFrame, h]

theorem settle_afterFrame_fail {s : State} (f : Frame) (rest : Ended) (h : s.nextAnswer = .fail) :
    (afterFrame s f rest).settle = sendFailed s f := by
  simp only [afterFrame, h]
  rfl

theorem settle_afterFrame_never {s : State} (f : Frame) (rest : Ended) (h : s.nextAnswer = .never) :
    (afterFrame s f rest).settle = sendStuck s f := by
  simp only [afterFrame, h]
  rfl

theorem afterFrame_andThen (s : State) (f : Frame) (rest : Ended) (k : State → Ended) :
    (afterFrame s f rest).andThen k = afterFrame s f (rest.andThen k) := by
  unfold afterFrame
  split <;> rfl

/-- One frame, then its commit (R203). -/
def frameThenCommit (s : State) (f : Frame) (commit : RegFile → RegFile) : Ended :=
  afterFrame s f (.ok (sent s f commit))

/-- The frame transaction of R109 with what follows it: the register file is written once the frame that
carries the write was answered (R203). -/
theorem sendFrame_andThen {k : Kind} {a : Address} {p : Half} {f : Frame}
    (frame : frameOf (kindBits k) a p = f) {update commit : RegFile → RegFile}
    (commits : ∀ r, update r = commit r) (s : State) (rest : State → Ended) :
    (sendFrame codes k a p s).andThen (fun u => rest (u.mapRegs update)) =
      afterFrame s f (rest (sent s f commit)) := by
  obtain rfl : update = commit := funext commits
  subst frame
  have rule := frameTransactionRule k a p s
  unfold afterFrame
  split
  case h_1 h => simp only [h] at rule; rw [rule]; rfl
  case h_2 h => simp only [h] at rule; rw [rule]; rfl
  case h_3 h => simp only [h] at rule; rw [rule]; rfl

/-! From the pseudocode of an instruction to how it ends -/

theorem exec_ready {s : State} (ready : Ready s) (i : Instr) :
    exec i s = .next (bodyOf codes i s).settle := exec_running ready.1 ready.2

theorem exec_unbound {i : Instr} {s : State} (ready : Ready s) (unbound : s.bound = false)
    (hi : ∀ m, i ≠ .initDevice m) : exec i s = .next (marked s .notBound) := by
  rw [exec_ready ready, bodyOf_unbound unbound hi]
  rfl

theorem endsByOneFrame_of_bodyOf {i : Instr} {s start : State} {f : Frame} {commit : RegFile → RegFile}
    (ready : Ready s) (answer : start.nextAnswer = s.nextAnswer)
    (body : bodyOf codes i s = frameThenCommit start f commit) :
    EndsByOneFrame i s start f commit := by
  unfold EndsByOneFrame
  rw [exec_ready ready, body, frameThenCommit, ← answer]
  split
  case h_1 h => rw [afterFrame_ok _ _ h]; rfl
  case h_2 h => rw [settle_afterFrame_fail _ _ h]
  case h_3 h => rw [settle_afterFrame_never _ _ h]

/-- The form of the rules of the requests that send one frame (R131, R132, R134, R135). -/
theorem oneFrameRule_of_bodyOf {i : Instr} {s start : State} {f : Frame} {commit : RegFile → RegFile}
    (ready : Ready s) (hi : ∀ m, i ≠ .initDevice m) (answer : start.nextAnswer = s.nextAnswer)
    (body : s.bound = true → bodyOf codes i s = frameThenCommit start f commit) :
    if s.bound then EndsByOneFrame i s start f commit
    else exec i s = .next (marked s .notBound) := by
  split
  case isTrue bound => exact endsByOneFrame_of_bodyOf ready answer (body bound)
  case isFalse unbound => exact exec_unbound ready (eq_false_of_ne_true unbound) hi

theorem endsByTwoFrames_of_bodyOf {i : Instr} {s start : State} {f1 f2 : Frame}
    {commit1 commit2 : RegFile → RegFile} (ready : Ready s) (answer : start.nextAnswer = s.nextAnswer)
    (body : bodyOf codes i s =
      afterFrame start f1 (frameThenCommit (sent start f1 commit1) f2 commit2)) :
    EndsByTwoFrames i s start f1 commit1 f2 commit2 := by
  unfold EndsByTwoFrames
  rw [exec_ready ready, body, frameThenCommit, ← answer]
  split
  case h_1 h =>
    rw [afterFrame_ok _ _ h]
    split
    case h_1 h => rw [afterFrame_ok _ _ h]; rfl
    case h_2 h => rw [settle_afterFrame_fail _ _ h]
    case h_3 h => rw [settle_afterFrame_never _ _ h]
  case h_2 h => rw [settle_afterFrame_fail _ _ h]
  case h_3 h => rw [settle_afterFrame_never _ _ h]

/-! The frames of the requests (30_encoding.md R73, R76) -/

theorem frameOf_reset (m : ResetMode) :
    frameOf (kindBits .resetControl) codes.addrReset (codes.rst m) = resetFrame m := by
  cases m <;> rfl

theorem frameOf_reference (m : RefMode) :
    frameOf (kindBits .referenceControl) codes.addrRef (codes.ref m) = refFrame m := by
  cases m <;> rfl

theorem frameOf_power (t : PowerTarget) (m : PowerMode) :
    frameOf (kindBits .powerControl) codes.addrPower (powerPayload codes t m) = powerFrame t m := by
  cases t <;> cases m <;> rfl

theorem frameOf_gain (ga gb : Gain) :
    frameOf (kindBits .plainWrite) .gain (gainPayload codes ga gb) = gainFrame ga gb := by
  cases ga <;> cases gb <;> rfl

theorem frameOf_latch (la lb : Latch) :
    frameOf (kindBits .latchControl) .all (latchPayload codes la lb) = latchFrame la lb := by
  cases la <;> cases lb <;> rfl

/-! The commits of the requests -/

theorem afterReset_eq_resetCommit (m : ResetMode) (r : RegFile) :
    r.afterReset m = resetCommit m r := by cases m <;> rfl

/-- I1 (10_state.md R33): the reference is written with both default gains. -/
theorem setRef_setGains_eq_refCommit (m : RefMode) (r : RegFile) :
    (r.setRef m).setGains (gainDefault m) (gainDefault m) = refCommit m r := by cases m <;> rfl

theorem setPower_eq_powerCommit (t : PowerTarget) (m : PowerMode) (r : RegFile) :
    r.setPower t m = powerCommit t m r := by cases t <;> rfl

/-! What the pseudocode of each request comes to on a bound block -/

theorem resetBody_eq {s : State} (h : s.bound = true) (m : ResetMode) :
    resetBody codes m s = frameThenCommit (pinsHigh s) (resetFrame m) (resetCommit m) := by
  have pins : ((s.pinSet .rst).pinSet .ldac).selHigh = pinsHigh s := by
    simp [State.selHigh, State.pinSet, Lines.drive, pinsHigh]
  rw [resetBody_bound h, pins]
  exact sendFrame_andThen (frameOf_reset m) (afterReset_eq_resetCommit m) _ .ok

theorem switchReferenceBody_eq {s : State} (h : s.bound = true) (m : RefMode) :
    switchReferenceBody codes m s = frameThenCommit s (refFrame m) (refCommit m) := by
  rw [switchReferenceBody_bound h]
  exact sendFrame_andThen (frameOf_reference m) (setRef_setGains_eq_refCommit m) s .ok

theorem switchGainBody_eq {s : State} (h : s.bound = true) (ga gb : Gain) :
    switchGainBody codes ga gb s = frameThenCommit s (gainFrame ga gb) (gainCommit ga gb) := by
  rw [switchGainBody_bound h]
  exact sendFrame_andThen (frameOf_gain ga gb) (fun _ => rfl) s .ok

theorem switchLatchBody_eq {s : State} (h : s.bound = true) (la lb : Latch) :
    switchLatchBody codes la lb s = frameThenCommit s (latchFrame la lb) (latchCommit la lb) := by
  rw [switchLatchBody_bound h]
  exact sendFrame_andThen (frameOf_latch la lb) (fun _ => rfl) s .ok

/-- Step 1 of `initialize` binds the block, so its steps 2 and 3 run on a bound one (R130). -/
theorem initializeBody_eq_frames (m : RefMode) (s : State) :
    initializeBody codes m s =
      let start := pinsHigh { s with bound := true, regs := onCommit s.regs }
      afterFrame start (resetFrame .all)
        (frameThenCommit (sent start (resetFrame .all) (resetCommit .all)) (refFrame m) (refCommit m)) := by
  rw [initializeBody_eq, resetBody_eq rfl, frameThenCommit, afterFrame_andThen, Ended.ok_andThen,
    switchReferenceBody_eq rfl]
  rfl

theorem switchPowerBody_eq_once {s : State} (h : s.bound = true) {t : PowerTarget} {m : PowerMode}
    (hr : resendNeeded t m s.regs = some false) :
    switchPowerBody codes t m s = frameThenCommit s (powerFrame t m) (powerCommit t m) := by
  rw [switchPowerBody_once h hr]
  exact sendFrame_andThen (frameOf_power t m) (setPower_eq_powerCommit t m) s .ok

theorem switchPowerBody_eq_twice {s : State} (h : s.bound = true) {t : PowerTarget} {m : PowerMode}
    (hr : resendNeeded t m s.regs = some true) :
    switchPowerBody codes t m s =
      afterFrame s (powerFrame t m)
        (frameThenCommit (sent s (powerFrame t m) (powerCommit t m)) (refFrame .internal)
          (refCommit .internal)) := by
  have bound : (sent s (powerFrame t m) (powerCommit t m)).bound = true := h
  rw [switchPowerBody_twice h hr, ← switchReferenceBody_eq bound]
  exact sendFrame_andThen (frameOf_power t m) (setPower_eq_powerCommit t m) s _

/-! When `switch_power` re-sends the reference (R133, I2) -/

theorem newPower_a (t : PowerTarget) (m : PowerMode) (r : RegFile) :
    newPower t m r .a = (powerCommit t m r).chA.pwr := by cases t <;> rfl

theorem newPower_b (t : PowerTarget) (m : PowerMode) (r : RegFile) :
    newPower t m r .b = (powerCommit t m r).chB.pwr := by cases t <;> rfl

theorem allOff_iff (pa pb : PowerMode) : allOff pa pb = true ↔ pa ≠ .on ∧ pb ≠ .on := by
  simp [allOff, nonOn]

section

variable {t : PowerTarget} {m : PowerMode} {r : RegFile}

theorem resendNeeded_unwritten_a (ha : (powerCommit t m r).chA.pwr = none) :
    resendNeeded t m r = none := by
  simp only [resendNeeded, newPower_a, ha]

theorem resendNeeded_unwritten_b (hb : (powerCommit t m r).chB.pwr = none) :
    resendNeeded t m r = none := by
  simp [resendNeeded, newPower_b, hb]

/-- The reference is read only when both channels are then non-On (D32). -/
theorem resendNeeded_written {pa pb : PowerMode} (ha : (powerCommit t m r).chA.pwr = some pa)
    (hb : (powerCommit t m r).chB.pwr = some pb) :
    resendNeeded t m r =
      if pa ≠ .on ∧ pb ≠ .on then r.ref.map (resendDue true) else some false := by
  simp only [resendNeeded, newPower_a, newPower_b, ha, hb, allOff_iff]

end

theorem exec_switchPower_unwritten {s : State} (ready : Ready s) (bound : s.bound = true)
    {t : PowerTarget} {m : PowerMode} (hr : resendNeeded t m s.regs = none) :
    exec (.switchPower t m) s = .next (marked s .unwritten) := by
  rw [exec_ready ready, bodyOf, switchPowerBody_unwritten bound hr]
  rfl

theorem switchPower_endsByOneFrame {s : State} (ready : Ready s) (bound : s.bound = true)
    {t : PowerTarget} {m : PowerMode} (hr : resendNeeded t m s.regs = some false) :
    EndsByOneFrame (.switchPower t m) s s (powerFrame t m) (powerCommit t m) :=
  endsByOneFrame_of_bodyOf ready rfl (switchPowerBody_eq_once bound hr)

/-! The rules -/

/-- Settles O20: the three pin and select events draw no answer. -/
theorem resetRule : Obligations.ResetRule := by
  intro m s ready
  exact oneFrameRule_of_bodyOf ready nofun rfl (resetBody_eq · m)

/-- Settles O21: the reference frame, from any reference mode. -/
theorem switchReferenceRule : Obligations.SwitchReferenceRule := by
  intro m s ready
  exact oneFrameRule_of_bodyOf ready nofun rfl (switchReferenceBody_eq · m)

/-- Settles O23: the gain frame; the reference is not read. -/
theorem switchGainRule : Obligations.SwitchGainRule := by
  intro ga gb s ready
  exact oneFrameRule_of_bodyOf ready nofun rfl (switchGainBody_eq · ga gb)

/-- Settles O24: the latch frame. -/
theorem switchLatchModeRule : Obligations.SwitchLatchModeRule := by
  intro la lb s ready
  exact oneFrameRule_of_bodyOf ready nofun rfl (switchLatchBody_eq · la lb)

/-- Settles O18: the frames of `reset All` and `switch_reference m`, from the block step 1 leaves. -/
theorem initializeRule : Obligations.InitializeRule := by
  intro m s ready
  exact endsByTwoFrames_of_bodyOf ready rfl (initializeBody_eq_frames m s)

/-- Settles O22, by what the re-send condition reads: a power mode that is ⊥, a channel left On, and the
reference. -/
theorem switchPowerRule : Obligations.SwitchPowerRule := by
  intro t m s ready
  split
  case isFalse unbound => exact exec_unbound ready (eq_false_of_ne_true unbound) nofun
  case isTrue bound =>
    cases ha : (powerCommit t m s.regs).chA.pwr with
    | none => exact exec_switchPower_unwritten ready bound (resendNeeded_unwritten_a ha)
    | some pa =>
      cases hb : (powerCommit t m s.regs).chB.pwr with
      | none => exact exec_switchPower_unwritten ready bound (resendNeeded_unwritten_b hb)
      | some pb =>
        have resend := resendNeeded_written ha hb
        dsimp only
        split
        case isFalse someOn =>
          exact switchPower_endsByOneFrame ready bound (by rw [resend, if_neg someOn])
        case isTrue bothOff =>
          rw [if_pos bothOff] at resend
          cases ref : s.regs.ref with
          | none =>
            rw [ref] at resend
            exact exec_switchPower_unwritten ready bound resend
          | some reference =>
            rw [ref] at resend
            cases reference with
            | external => exact switchPower_endsByOneFrame ready bound resend
            | internal =>
              exact endsByTwoFrames_of_bodyOf ready rfl (switchPowerBody_eq_twice bound resend)

end Sys2Proof.ConfigRequests
end

section
/-! PROOFS. The requests that do not touch the register file (42_pin_raw_ops.md R180, R181): `write` is the
frame transaction with an empty commit, and `pulse_latch` draws no answer. -/

namespace Sys2Proof.RawRequests

open Sys2Proof.Machine Sys2Proof.Claim Sys2Proof.ConfigRequests

/-! The raw write (R181) -/

theorem andThen_ok (e : Ended) : e.andThen .ok = e := by cases e <;> rfl

/-- A frame transaction on its own commits nothing (R109). -/
theorem sendFrame_eq_frameThenCommit_id (k : Kind) (a : Address) (p : Half) (s : State) :
    sendFrame codes k a p s = frameThenCommit s (frameOf (kindBits k) a p) id :=
  calc sendFrame codes k a p s
    _ = (sendFrame codes k a p s).andThen .ok := (andThen_ok _).symm
    _ = frameThenCommit s (frameOf (kindBits k) a p) id :=
      sendFrame_andThen rfl (fun r => Eq.refl (id r)) s .ok

theorem writeBody_eq {s : State} (h : s.bound = true) (k : Kind) (a : Address) (v : Half) :
    writeBody codes k a v s = frameThenCommit s (frameOf (kindBits k) a v) id := by
  rw [writeBody_bound h, sendFrame_eq_frameThenCommit_id]

/-- Settles O26: the frame asked for, with nothing committed after it. -/
theorem writeRule : Obligations.WriteRule := by
  intro k a v s ready
  exact oneFrameRule_of_bodyOf ready nofun rfl (writeBody_eq · k a v)

/-! The latch pulse (R180) -/

/-- The latch line low, then high (D25): of the two levels only the second stays. -/
theorem pinClear_pinSet_ldac (s : State) :
    (s.pinClear .ldac).pinSet .ldac =
      { s with
        line := { s.line with ldac := some .high }
        trace := s.trace ++ [.pinClear .ldac, .pinSet .ldac] } := by
  simp [State.pinClear, State.pinSet, Lines.drive]

/-- Settles O25: on a bound block the pseudocode runs to its end, whatever the transport would answer. -/
theorem pulseLatchRule : Obligations.PulseLatchRule := by
  intro s ready
  split
  case isTrue bound =>
    rw [exec_ready ready, bodyOf, pulseLatchBody_bound bound, pinClear_pinSet_ldac]
    rfl
  case isFalse unbound => exact exec_unbound ready (eq_false_of_ne_true unbound) nofun

end Sys2Proof.RawRequests
end

section
/-! PROOFS. The decoder and the encoder (30_encoding.md R70 to R81). Over every table of codes that can be
read back, decode inverts encode; over every table at all, encode inverts decode. The default table can be
read back, so both hold of the machine's own codes, and its decoder accepts exactly what can be spelled. -/

namespace Sys2Proof.Decoding

open Sys2Proof.Machine Sys2Proof.Claim

/-! The fields of byte 0: bits 7 and 6, the kind code in bits 5 to 3, the address in bits 2 to 0 (R70) -/

section

variable {k : Byte} (kindBits : k &&& 0x38#8 = k) (a : BitVec 3)
include kindBits

theorem top_of_kind_or_addr : (k ||| a.setWidth 8).extractLsb' 6 2 = 0#2 := by
  have addr : (a.setWidth 8).extractLsb' 6 2 = 0#2 := by revert a; decide
  rw [← kindBits, BitVec.extractLsb'_or, BitVec.extractLsb'_and, addr]
  simp

theorem kind_of_kind_or_addr : (k ||| a.setWidth 8) &&& 0x38#8 = k := by
  have addr : 0x38#8 &&& a.setWidth 8 = 0#8 := by revert a; decide
  rw [BitVec.and_comm, BitVec.and_or_distrib_left, addr, BitVec.and_comm, kindBits, BitVec.or_zero]

theorem addr_of_kind_or_addr : (k ||| a.setWidth 8).extractLsb' 0 3 = a := by
  have addr : (a.setWidth 8).extractLsb' 0 3 = a := by revert a; decide
  rw [← kindBits, BitVec.extractLsb'_or, BitVec.extractLsb'_and, addr]
  simp

end

/-- The three fields make up the whole byte, so a frame that decodes has no bit that is ignored. -/
theorem kind_or_addr_of_top {b : Byte} (top : b.extractLsb' 6 2 = 0#2) :
    b &&& 0x38#8 ||| (b.extractLsb' 0 3).setWidth 8 = b := by
  have bit6 : b[6] = false := by simpa using congrArg (·.getLsbD 0) top
  have bit7 : b[7] = false := by simpa using congrArg (·.getLsbD 1) top
  apply BitVec.eq_of_getLsbD_eq
  intro i hi
  interval_cases i <;> simp [bit6, bit7]

theorem framePayload_high (f : Frame) : (framePayload f).extractLsb' 8 8 = f.b1 :=
  BitVec.extractLsb'_append_eq_left

theorem framePayload_low (f : Frame) : (framePayload f).extractLsb' 0 8 = f.b2 :=
  BitVec.extractLsb'_append_eq_right

/-! Reading a code back -/

/-- The codes of an enumeration, no two of them equal, are read back as the values they stand for. -/
theorem ofCode_code {α : Type} {values : List α} {w : Nat} {code : α → BitVec w}
    (listed : ∀ x, x ∈ values) (injective : ∀ x y, code x = code y → x = y) (x : α) :
    ofCode values (fun y => (code y).toNat) (code x).toNat = some x := by
  cases found : ofCode values (fun y => (code y).toNat) (code x).toNat with
  | none => exact absurd (List.find?_eq_none.mp found x (listed x)) (by simp)
  | some y =>
    have same : (code y).toNat = (code x).toNat :=
      ofCode_some (code := fun y => (code y).toNat) found
    rw [injective y x (BitVec.eq_of_toNat_eq same)]

theorem mem_kindValues (k : Kind) : k ∈ Kind.values := by cases k <;> decide
theorem mem_addressValues (a : Address) : a ∈ Address.values := by cases a <;> decide
theorem mem_resetModeValues (m : ResetMode) : m ∈ ResetMode.values := by cases m <;> decide
theorem mem_refModeValues (m : RefMode) : m ∈ RefMode.values := by cases m <;> decide
theorem mem_powerTargetValues (t : PowerTarget) : t ∈ PowerTarget.values := by cases t <;> decide
theorem mem_powerModeValues (m : PowerMode) : m ∈ PowerMode.values := by cases m <;> decide
theorem mem_gainValues (g : Gain) : g ∈ Gain.values := by cases g <;> decide
theorem mem_latchValues (l : Latch) : l ∈ Latch.values := by cases l <;> decide

/-! Decode inverts encode, over every table that can be read back (R79) -/

section

variable {ct : CodeTable} (readable : ct.WellFormed)
include readable

theorem decodeBytes_encodeFrame (k : Kind) (a : Address) (p : Half) :
    decodeBytes ct (encodeFrame ct k a p).bytes = .ok (frameInstr k a p) := by
  have top : frameTop (encodeFrame ct k a p) = 0#2 := top_of_kind_or_addr (readable.kind_bits k) _
  have kind : frameKindCode (encodeFrame ct k a p) = ct.kind k :=
    kind_of_kind_or_addr (readable.kind_bits k) _
  have addr : frameAddrCode (encodeFrame ct k a p) = ct.addr a :=
    addr_of_kind_or_addr (readable.kind_bits k) _
  have payload : framePayload (encodeFrame ct k a p) = p := framePayload_encodeFrame k a p
  have readKind : kindOfCode ct (ct.kind k).toNat = some k := ofCode_code mem_kindValues readable.kind k
  have readAddr : addressOfCode ct (ct.addr a).toNat = some a :=
    ofCode_code mem_addressValues readable.addr a
  have fields : decodeFields ct (encodeFrame ct k a p) = .ok (k, a, p) := by
    simp only [decodeFields, top, kind, addr, payload, readKind, readAddr, need_some]
    rfl
  change decodeFrame ct (encodeFrame ct k a p) = _
  rw [decodeFrame, fields]
  rfl

theorem decodeRequest_initDevice (m : RefMode) :
    decodeRequest ct (.initDevice (ct.ref m).toNat) = .ok (.initDevice m) := by
  have read : refModeOfCode ct (ct.ref m).toNat = some m := ofCode_code mem_refModeValues readable.ref m
  rw [decodeRequest, read]; rfl

theorem decodeRequest_reset (m : ResetMode) :
    decodeRequest ct (.reset (ct.rst m).toNat) = .ok (.reset m) := by
  have read : resetModeOfCode ct (ct.rst m).toNat = some m :=
    ofCode_code mem_resetModeValues readable.rst m
  rw [decodeRequest, read]; rfl

theorem decodeRequest_switchReference (m : RefMode) :
    decodeRequest ct (.switchReference (ct.ref m).toNat) = .ok (.switchReference m) := by
  have read : refModeOfCode ct (ct.ref m).toNat = some m := ofCode_code mem_refModeValues readable.ref m
  rw [decodeRequest, read]; rfl

theorem decodeRequest_switchPower (t : PowerTarget) (m : PowerMode) :
    decodeRequest ct (.switchPower (ct.pwrTarget t).toNat (ct.pwrMode m).toNat) =
      .ok (.switchPower t m) := by
  have target : powerTargetOfCode ct (ct.pwrTarget t).toNat = some t :=
    ofCode_code mem_powerTargetValues readable.pwrTarget t
  have mode : powerModeOfCode ct (ct.pwrMode m).toNat = some m :=
    ofCode_code mem_powerModeValues readable.pwrMode m
  rw [decodeRequest, target, mode]; rfl

theorem gainOfCode_code_of_wellFormed (c : Channel) (g : Gain) :
    gainOfCode ct c (ct.gain c g).toNat = some g := ofCode_code mem_gainValues (readable.gain c) g

theorem latchOfCode_code_of_wellFormed (c : Channel) (l : Latch) :
    latchOfCode ct c (ct.latch c l).toNat = some l := ofCode_code mem_latchValues (readable.latch c) l

theorem decodeRequest_switchGain (ga gb : Gain) :
    decodeRequest ct (.switchGain (ct.gain .a ga).toNat (ct.gain .b gb).toNat) =
      .ok (.switchGain ga gb) := by
  rw [decodeRequest, gainOfCode_code_of_wellFormed readable, gainOfCode_code_of_wellFormed readable]; rfl

theorem decodeRequest_switchLatchMode (la lb : Latch) :
    decodeRequest ct (.switchLatchMode (ct.latch .a la).toNat (ct.latch .b lb).toNat) =
      .ok (.switchLatchMode la lb) := by
  rw [decodeRequest, latchOfCode_code_of_wellFormed readable, latchOfCode_code_of_wellFormed readable]; rfl

theorem decodeRequest_write (k : Kind) (a : Address) (v : Half) :
    decodeRequest ct (.write (ct.kind k).toNat (ct.addr a).toNat v.toNat) = .ok (.write k a v) := by
  have kind : kindOfCode ct (ct.kind k).toNat = some k := ofCode_code mem_kindValues readable.kind k
  have addr : addressOfCode ct (ct.addr a).toNat = some a :=
    ofCode_code mem_addressValues readable.addr a
  rw [decodeRequest, kind, addr, halfOfNat_toNat]; rfl

end

/-- Settles O55, one constructor at a time: a frame row by its fields, a request by its codes. -/
theorem everyReadableCodeTableRoundTrips : Obligations.EveryReadableCodeTableRoundTrips := by
  intro ct readable i
  cases i with
  | initDevice m => exact decodeRequest_initDevice readable m
  | reset m => exact decodeRequest_reset readable m
  | switchReference m => exact decodeRequest_switchReference readable m
  | switchPower t m => exact decodeRequest_switchPower readable t m
  | switchGain ga gb => exact decodeRequest_switchGain readable ga gb
  | switchLatchMode la lb => exact decodeRequest_switchLatchMode readable la lb
  | pulseLatch => rfl
  | write k a v => exact decodeRequest_write readable k a v
  | _ => exact decodeBytes_encodeFrame readable _ _ _

/-- The spec's default codes can be read back (R71, R72, R74). -/
theorem codes_wellFormed : codes.WellFormed where
  kind_bits k := by cases k <;> decide
  kind x y := by cases x <;> cases y <;> decide
  addr x y := by cases x <;> cases y <;> decide
  rst x y := by cases x <;> cases y <;> decide
  ref x y := by cases x <;> cases y <;> decide
  pwrTarget x y := by cases x <;> cases y <;> decide
  pwrMode x y := by cases x <;> cases y <;> decide
  gain c x y := by cases c <;> cases x <;> cases y <;> decide
  latch c x y := by cases c <;> cases x <;> cases y <;> decide

/-- Settles O3: the default table can be read back. -/
theorem decodeInvertsEncode : Obligations.DecodeInvertsEncode :=
  everyReadableCodeTableRoundTrips codes codes_wellFormed

/-- Settles O2. -/
theorem decodeInvertsFrameEncoder : Obligations.DecodeInvertsFrameEncoder :=
  decodeBytes_encodeFrame codes_wellFormed

/-! Encode inverts decode, over every table (R79, R206) -/

/-- Reading an argument and going on. -/
theorem need_bind_eq_ok {α β : Type} {x : Option α} {e : DecodeError} {k : α → Except DecodeError β}
    {y : β} : (need x e >>= k) = .ok y ↔ ∃ v, x = some v ∧ k v = .ok y := by
  cases x with
  | none => simp [need, Except.bind, bind]
  | some v => simp [need, Except.bind, bind]

theorem toNat_of_halfOfNat {n : Nat} {v : Half} (h : halfOfNat n = some v) : v.toNat = n := by
  unfold halfOfNat at h
  split at h
  case isTrue small => cases h; exact Nat.mod_eq_of_lt small
  case isFalse => cases h

/-- A frame that decodes is the frame of what it decodes to. -/
theorem encodeFrame_of_decodeFields {ct : CodeTable} {f : Frame} {k : Kind} {a : Address} {p : Half}
    (h : decodeFields ct f = .ok (k, a, p)) : encodeFrame ct k a p = f := by
  unfold decodeFields at h
  split at h
  case isTrue => cases h
  case isFalse top =>
    simp only [need_bind_eq_ok] at h
    obtain ⟨k, readKind, a, readAddr, h⟩ := h
    cases h
    have kind : ct.kind k = f.b0 &&& 0x38#8 :=
      BitVec.eq_of_toNat_eq (ofCode_some (code := fun k => (ct.kind k).toNat) readKind)
    have addr : ct.addr a = f.b0.extractLsb' 0 3 :=
      BitVec.eq_of_toNat_eq (ofCode_some (code := fun a => (ct.addr a).toNat) readAddr)
    rw [encodeFrame, kind, addr, kind_or_addr_of_top (not_not.mp top), framePayload_high,
      framePayload_low]

theorem encode_frameInstr (ct : CodeTable) (k : Kind) (a : Address) (p : Half) :
    encode ct (frameInstr k a p) = .frame (encodeFrame ct k a p).bytes := by cases k <;> rfl

theorem encode_of_decodeBytes {ct : CodeTable} {bytes : List Byte} {i : Instr}
    (h : decodeBytes ct bytes = .ok i) : encode ct i = .frame bytes := by
  unfold decodeBytes at h
  split at h
  case h_1 b0 b1 b2 =>
    unfold decodeFrame at h
    cases fields : decodeFields ct ⟨b0, b1, b2⟩ with
    | error e => rw [fields] at h; cases h
    | ok kap =>
      rw [fields] at h
      cases h
      rw [encode_frameInstr, encodeFrame_of_decodeFields fields]
      rfl
  case h_2 => cases h

theorem encode_of_decodeRequest {ct : CodeTable} {r : RawRequest} {i : Instr}
    (h : decodeRequest ct r = .ok i) : encode ct i = .request r := by
  cases r with
  | pulseLatch => cases h; rfl
  | unlisted => cases h
  | initDevice n =>
    obtain ⟨m, read, h⟩ := need_bind_eq_ok.mp h
    cases h
    rw [encode, ofCode_some (code := fun m => (ct.ref m).toNat) read]
  | reset n =>
    obtain ⟨m, read, h⟩ := need_bind_eq_ok.mp h
    cases h
    rw [encode, ofCode_some (code := fun m => (ct.rst m).toNat) read]
  | switchReference n =>
    obtain ⟨m, read, h⟩ := need_bind_eq_ok.mp h
    cases h
    rw [encode, ofCode_some (code := fun m => (ct.ref m).toNat) read]
  | switchPower nt nm =>
    simp only [decodeRequest, need_bind_eq_ok] at h
    obtain ⟨t, target, m, mode, h⟩ := h
    cases h
    rw [encode, ofCode_some (code := fun t => (ct.pwrTarget t).toNat) target,
      ofCode_some (code := fun m => (ct.pwrMode m).toNat) mode]
  | switchGain na nb =>
    simp only [decodeRequest, need_bind_eq_ok] at h
    obtain ⟨ga, readA, gb, readB, h⟩ := h
    cases h
    rw [encode, ofCode_some (code := fun g => (ct.gain .a g).toNat) readA,
      ofCode_some (code := fun g => (ct.gain .b g).toNat) readB]
  | switchLatchMode na nb =>
    simp only [decodeRequest, need_bind_eq_ok] at h
    obtain ⟨la, readA, lb, readB, h⟩ := h
    cases h
    rw [encode, ofCode_some (code := fun l => (ct.latch .a l).toNat) readA,
      ofCode_some (code := fun l => (ct.latch .b l).toNat) readB]
  | write nk na nv =>
    simp only [decodeRequest, need_bind_eq_ok] at h
    obtain ⟨k, kind, a, addr, v, value, h⟩ := h
    cases h
    rw [encode, ofCode_some (code := fun k => (ct.kind k).toNat) kind,
      ofCode_some (code := fun a => (ct.addr a).toNat) addr, toNat_of_halfOfNat value]

/-- No table of codes gives an instruction two spellings. -/
theorem encode_of_decode {ct : CodeTable} {x : PortItem} {i : Instr} (h : decode ct x = .ok i) :
    encode ct i = x := by
  cases x with
  | request r => exact encode_of_decodeRequest h
  | frame bytes => exact encode_of_decodeBytes h

/-- Settles O4. -/
theorem encodeInvertsDecode : Obligations.EncodeInvertsDecode := fun _ _ => encode_of_decode

/-! The decoder's domain (R77, R206) -/

/-- What an instruction is spelled with lies in the closed types of R80. -/
theorem encode_wf (i : Instr) : (encode codes i).wf = true := by
  open Laws.EncodesWellFormed in
  cases i with
  | initDevice m => exact initDevice m
  | reset m => exact reset m
  | switchReference m => exact switchReference m
  | switchPower t m => exact switchPower t m
  | switchGain ga gb => exact switchGain ga gb
  | switchLatchMode la lb => exact switchLatchMode la lb
  | pulseLatch => exact pulseLatch
  | write k a v => exact write k a v
  | _ => exact encodedFrame_wf _ _ _

/-! Every number the spec lists is the code of a value (R71, R72, R74) -/

theorem exists_kind {n : Nat} (h : wfKind n = true) : ∃ k, (codes.kind k).toNat = n := by
  obtain ⟨k, read⟩ := Option.isSome_iff_exists.mp ((kindOfCode_isSome n).trans h)
  exact ⟨k, ofCode_some (code := fun k => (codes.kind k).toNat) read⟩

theorem exists_address {n : Nat} (h : wfAddress n = true) : ∃ a, (codes.addr a).toNat = n := by
  obtain ⟨a, read⟩ := Option.isSome_iff_exists.mp ((addressOfCode_isSome n).trans h)
  exact ⟨a, ofCode_some (code := fun a => (codes.addr a).toNat) read⟩

theorem exists_powerMode {n : Nat} (h : wfPower n = true) : ∃ m, (codes.pwrMode m).toNat = n := by
  obtain ⟨m, read⟩ := Option.isSome_iff_exists.mp ((powerModeOfCode_isSome n).trans h)
  exact ⟨m, ofCode_some (code := fun m => (codes.pwrMode m).toNat) read⟩

theorem wfBit0_iff (n : Nat) : wfBit0 n = true ↔ n = 0 ∨ n = 1 := by simp [wfBit0]

theorem wfBit1_iff (n : Nat) : wfBit1 n = true ↔ n = 0 ∨ n = 2 := by simp [wfBit1]

theorem exists_resetMode {n : Nat} (h : wfBit0 n = true) : ∃ m, (codes.rst m).toNat = n := by
  obtain rfl | rfl := (wfBit0_iff n).mp h
  · exact ⟨.dacOnly, rfl⟩
  · exact ⟨.all, rfl⟩

theorem exists_refMode {n : Nat} (h : wfBit0 n = true) : ∃ m, (codes.ref m).toNat = n := by
  obtain rfl | rfl := (wfBit0_iff n).mp h
  · exact ⟨.external, rfl⟩
  · exact ⟨.internal, rfl⟩

theorem exists_gainA {n : Nat} (h : wfBit0 n = true) : ∃ g, (codes.gain .a g).toNat = n := by
  obtain rfl | rfl := (wfBit0_iff n).mp h
  · exact ⟨.x2, rfl⟩
  · exact ⟨.x1, rfl⟩

theorem exists_gainB {n : Nat} (h : wfBit1 n = true) : ∃ g, (codes.gain .b g).toNat = n := by
  obtain rfl | rfl := (wfBit1_iff n).mp h
  · exact ⟨.x2, rfl⟩
  · exact ⟨.x1, rfl⟩

theorem exists_latchA {n : Nat} (h : wfBit0 n = true) : ∃ l, (codes.latch .a l).toNat = n := by
  obtain rfl | rfl := (wfBit0_iff n).mp h
  · exact ⟨.async, rfl⟩
  · exact ⟨.sync, rfl⟩

theorem exists_latchB {n : Nat} (h : wfBit1 n = true) : ∃ l, (codes.latch .b l).toNat = n := by
  obtain rfl | rfl := (wfBit1_iff n).mp h
  · exact ⟨.async, rfl⟩
  · exact ⟨.sync, rfl⟩

theorem exists_powerTarget {n : Nat} (h : wfTarget n = true) : ∃ t, (codes.pwrTarget t).toNat = n := by
  simp only [wfTarget, Bool.or_eq_true, beq_iff_eq] at h
  obtain (rfl | rfl) | rfl := h
  · exact ⟨.a, rfl⟩
  · exact ⟨.b, rfl⟩
  · exact ⟨.all, rfl⟩

theorem exists_value {n : Nat} (h : wfValue n = true) : ∃ v : Half, v.toNat = n :=
  ⟨BitVec.ofNat 16 n, Nat.mod_eq_of_lt (of_decide_eq_true h)⟩

/-- Bits 5 to 3 of any byte are a kind code: the eight kinds fill the grid (R71). -/
theorem wfKind_and_kindMask (b : Byte) : wfKind (b &&& 0x38#8).toNat = true := by
  have grid : (b &&& 0x38#8).toNat % 8 = 0 := by
    rw [BitVec.toNat_and]
    exact (Nat.and_mod_two_pow (n := 3)).trans (Nat.and_zero _)
  have small : (b &&& 0x38#8).toNat ≤ 0x38 := by
    rw [BitVec.toNat_and]
    exact Nat.and_le_right
  exact Bool.and_eq_true_iff.mpr ⟨beq_iff_eq.mpr grid, decide_eq_true small⟩

theorem exists_encodeFrame {b0 : Byte} (top : b0.extractLsb' 6 2 = 0#2)
    (addr : wfAddress (b0.extractLsb' 0 3).toNat = true) (b1 b2 : Byte) :
    ∃ k a p, encodeFrame codes k a p = ⟨b0, b1, b2⟩ := by
  obtain ⟨k, kindCode⟩ := exists_kind (wfKind_and_kindMask b0)
  obtain ⟨a, addrCode⟩ := exists_address addr
  refine ⟨k, a, framePayload ⟨b0, b1, b2⟩, ?_⟩
  rw [encodeFrame, BitVec.eq_of_toNat_eq kindCode, BitVec.eq_of_toNat_eq addrCode,
    kind_or_addr_of_top top, framePayload_high, framePayload_low]

/-- Every item the spec's numbers admit is the encoding of an instruction. -/
theorem exists_encode_of_wf {x : PortItem} (h : x.wf = true) : ∃ i, encode codes i = x := by
  cases x with
  | frame bytes =>
    match bytes with
    | [b0, b1, b2] =>
      simp only [PortItem.wf, wfFrame, Bool.and_eq_true, beq_iff_eq] at h
      obtain ⟨top, addr⟩ := h
      obtain ⟨k, a, p, frame⟩ := exists_encodeFrame top addr b1 b2
      exact ⟨frameInstr k a p, by rw [encode_frameInstr, frame]; rfl⟩
    | [] | [_] | [_, _] | _ :: _ :: _ :: _ :: _ => cases h
  | request r =>
    cases r with
    | initDevice n => obtain ⟨m, rfl⟩ := exists_refMode h; exact ⟨.initDevice m, rfl⟩
    | reset n => obtain ⟨m, rfl⟩ := exists_resetMode h; exact ⟨.reset m, rfl⟩
    | switchReference n => obtain ⟨m, rfl⟩ := exists_refMode h; exact ⟨.switchReference m, rfl⟩
    | switchPower nt nm =>
      obtain ⟨target, mode⟩ := Bool.and_eq_true_iff.mp h
      obtain ⟨t, rfl⟩ := exists_powerTarget target
      obtain ⟨m, rfl⟩ := exists_powerMode mode
      exact ⟨.switchPower t m, rfl⟩
    | switchGain na nb =>
      obtain ⟨gainA, gainB⟩ := Bool.and_eq_true_iff.mp h
      obtain ⟨ga, rfl⟩ := exists_gainA gainA
      obtain ⟨gb, rfl⟩ := exists_gainB gainB
      exact ⟨.switchGain ga gb, rfl⟩
    | switchLatchMode na nb =>
      obtain ⟨latchA, latchB⟩ := Bool.and_eq_true_iff.mp h
      obtain ⟨la, rfl⟩ := exists_latchA latchA
      obtain ⟨lb, rfl⟩ := exists_latchB latchB
      exact ⟨.switchLatchMode la lb, rfl⟩
    | pulseLatch => exact ⟨.pulseLatch, rfl⟩
    | write nk na nv =>
      obtain ⟨kindAddr, value⟩ := Bool.and_eq_true_iff.mp h
      obtain ⟨kind, addr⟩ := Bool.and_eq_true_iff.mp kindAddr
      obtain ⟨k, rfl⟩ := exists_kind kind
      obtain ⟨a, rfl⟩ := exists_address addr
      obtain ⟨v, rfl⟩ := exists_value value
      exact ⟨.write k a v, rfl⟩
    | unlisted => cases h

theorem decode_isOk_iff_wf (x : PortItem) : (∃ i, decode codes x = .ok i) ↔ x.wf = true := by
  constructor
  · rintro ⟨i, decoded⟩
    exact encode_of_decode decoded ▸ encode_wf i
  · intro spellable
    obtain ⟨i, rfl⟩ := exists_encode_of_wf spellable
    exact ⟨i, decodeInvertsEncode i⟩

/-- Settles O5: the items that decode and the items that can be spelled are both the encodings. -/
theorem decodeAcceptsExactlyTheSpellable : Obligations.DecodeAcceptsExactlyTheSpellable :=
  decode_isOk_iff_wf

theorem topBits_eq_zero_iff (b : Byte) : b.extractLsb' 6 2 = 0#2 ↔ b < 0x40#8 := by
  have small := b.isLt
  rw [← BitVec.toNat_inj, BitVec.extractLsb'_toNat, Nat.shiftRight_eq_div_pow, BitVec.lt_def]
  change b.toNat / 64 % 4 = 0 ↔ b.toNat < 64
  omega

/-- The address code as a masked byte. -/
theorem addrCode_eq_iff (b : Byte) (a : BitVec 3) :
    (b.extractLsb' 0 3).toNat = a.toNat ↔ b &&& 0x07#8 = a.setWidth 8 := by
  have masked : b &&& 0x07#8 = (b.extractLsb' 0 3).setWidth 8 := by
    apply BitVec.eq_of_getLsbD_eq
    intro i hi
    interval_cases i <;> simp
  rw [masked, ← BitVec.toNat_inj (x := BitVec.setWidth 8 _),
    BitVec.toNat_setWidth_of_le (by decide), BitVec.toNat_setWidth_of_le (by decide)]

/-- Settles O6: the spelling check of a frame, in the rule's own masks. -/
theorem reservedAddressesAreRefused : Obligations.ReservedAddressesAreRefused := by
  intro b0 b1 b2
  rw [decode_isOk_iff_wf]
  simp only [PortItem.wf, wfFrame, wfAddress, Bool.and_eq_true, Bool.or_eq_true, beq_iff_eq,
    topBits_eq_zero_iff, or_assoc]
  exact and_congr_right' (or_congr (addrCode_eq_iff b0 0#3) (or_congr (addrCode_eq_iff b0 1#3)
    (or_congr (addrCode_eq_iff b0 2#3) (addrCode_eq_iff b0 7#3))))

/-! Payloads, the serial line and table words (R52, R75, R80) -/

/-- Operands that share no bit are summed by their OR. -/
theorem or_eq_add_of_disjoint {x y : Half} (h : x &&& y = 0#16) : x &&& y = 0#16 ∧ x ||| y = x + y :=
  ⟨h, (BitVec.add_eq_or_of_and_eq_zero _ _ h).symm⟩

theorem powerOperands_disjoint (t : PowerTarget) (m : PowerMode) :
    codes.pwrTarget t &&& codes.pwrMode m = 0#16 := by cases t <;> cases m <;> decide

theorem gainOperands_disjoint (ga gb : Gain) : codes.gain .a ga &&& codes.gain .b gb = 0#16 := by
  cases ga <;> cases gb <;> decide

theorem latchOperands_disjoint (la lb : Latch) : codes.latch .a la &&& codes.latch .b lb = 0#16 := by
  cases la <;> cases lb <;> decide

/-- Settles O7: each OR is a sum because its operands are disjoint. -/
theorem payloadOperandsAreDisjoint : Obligations.PayloadOperandsAreDisjoint :=
  ⟨fun t m => or_eq_add_of_disjoint (powerOperands_disjoint t m),
    fun ga gb => or_eq_add_of_disjoint (gainOperands_disjoint ga gb),
    fun la lb => or_eq_add_of_disjoint (latchOperands_disjoint la lb)⟩

theorem wireBits_length (o : BitOrder) (b : Byte) : (wireBits o b).length = 8 := by cases o <;> rfl

/-- Settles O8. -/
theorem frameLeavesBytewise : Obligations.FrameLeavesBytewise := by
  intro o f
  refine ⟨?_, wireBits_length o f.b0, wireBits_length o f.b1, wireBits_length o f.b2⟩
  simp only [serialBits, Frame.bytes, List.flatMap_cons, List.flatMap_nil, List.append_nil,
    List.append_assoc]

/-- Settles O10: seven words and a reserved address, each read by the model. -/
theorem tableWordsDecode : Obligations.TableWordsDecode := by
  unfold Obligations.TableWordsDecode
  decide

end Sys2Proof.Decoding
end

section
/-! PROOFS. The text syntax (30_encoding.md R81): a line spelled by an operation name and argument words is
read as their record, so what is left of a request is to look its names up. -/

namespace Sys2Proof.Text

open Sys2Proof.Machine Sys2Proof.Claim

/-! Words, and the line they spell -/

/-- A character of a name or a number: neither blank nor a mark of the syntax. -/
def isNameChar (c : Char) : Bool := !isBlank c && c != ',' && c != ';' && c != '\n'

/-- A name or a number. -/
def isWord (w : List Char) : Bool := !w.isEmpty && w.all isNameChar

/-- The arguments of a request, comma-separated. -/
def joinArgs : List Char → List (List Char) → List Char
  | w, [] => w
  | w, v :: ws => w ++ ',' :: ' ' :: joinArgs v ws

/-- A request with at least one argument, as one line. -/
def requestLine (op arg : List Char) (args : List (List Char)) : List Char := op ++ ' ' :: joinArgs arg args

theorem isNameChar_iff (c : Char) :
    isNameChar c = true ↔ isBlank c = false ∧ c ≠ ',' ∧ c ≠ ';' ∧ c ≠ '\n' := by
  simp [isNameChar, and_assoc]

theorem isNameChar_of_mem {w : List Char} (h : isWord w = true) : ∀ c ∈ w, isNameChar c = true :=
  List.all_eq_true.mp (Bool.and_eq_true_iff.mp h).2

theorem mem_joinArgs {w : List Char} {ws : List (List Char)} (words : ∀ v ∈ w :: ws, isWord v = true)
    {c : Char} (h : c ∈ joinArgs w ws) : isNameChar c = true ∨ c = ',' ∨ c = ' ' := by
  induction ws generalizing w with
  | nil => exact .inl (isNameChar_of_mem (words w List.mem_cons_self) c h)
  | cons v ws ih =>
    simp only [joinArgs, List.mem_append, List.mem_cons] at h
    obtain inWord | rfl | rfl | later := h
    · exact .inl (isNameChar_of_mem (words w List.mem_cons_self) c inWord)
    · exact .inr (.inl rfl)
    · exact .inr (.inr rfl)
    · exact ih (fun u hu => words u (List.mem_cons_of_mem w hu)) later

/-! Text whose first and last characters are not blank -/

def StartsFull (cs : List Char) : Prop := ∃ c rest, cs = c :: rest ∧ isBlank c = false

def EndsFull (cs : List Char) : Prop := ∃ rest c, cs = rest ++ [c] ∧ isBlank c = false

theorem startsFull_append {cs : List Char} (h : StartsFull cs) (ds : List Char) : StartsFull (cs ++ ds) := by
  obtain ⟨c, rest, rfl, full⟩ := h
  exact ⟨c, rest ++ ds, rfl, full⟩

theorem endsFull_append (cs : List Char) {ds : List Char} (h : EndsFull ds) : EndsFull (cs ++ ds) := by
  obtain ⟨rest, c, rfl, full⟩ := h
  exact ⟨cs ++ rest, c, (List.append_assoc cs rest [c]).symm, full⟩

theorem startsFull_of_isWord {w : List Char} (h : isWord w = true) : StartsFull w := by
  cases w with
  | nil => cases h
  | cons c rest =>
    obtain ⟨full, -⟩ := (isNameChar_iff c).mp (isNameChar_of_mem h c List.mem_cons_self)
    exact ⟨c, rest, rfl, full⟩

theorem endsFull_of_isWord {w : List Char} (h : isWord w = true) : EndsFull w := by
  obtain rfl | ⟨rest, c, rfl⟩ := List.eq_nil_or_concat' w
  · cases h
  · obtain ⟨full, -⟩ := (isNameChar_iff c).mp (isNameChar_of_mem h c (by simp))
    exact ⟨rest, c, rfl, full⟩

theorem startsFull_joinArgs {w : List Char} (h : isWord w = true) (ws : List (List Char)) :
    StartsFull (joinArgs w ws) := by
  cases ws with
  | nil => exact startsFull_of_isWord h
  | cons v ws => exact startsFull_append (startsFull_of_isWord h) _

theorem endsFull_joinArgs {w : List Char} {ws : List (List Char)} (words : ∀ v ∈ w :: ws, isWord v = true) :
    EndsFull (joinArgs w ws) := by
  induction ws generalizing w with
  | nil => exact endsFull_of_isWord (words w List.mem_cons_self)
  | cons v ws ih =>
    have later := ih fun u hu => words u (List.mem_cons_of_mem w hu)
    exact endsFull_append w (endsFull_append [',', ' '] later)

theorem trimBlanks_of_full {cs : List Char} (starts : StartsFull cs) (ends : EndsFull cs) :
    trimBlanks cs = cs := by
  have noneBefore : cs.dropWhile isBlank = cs := by
    obtain ⟨c, rest, rfl, full⟩ := starts
    exact List.dropWhile_cons_of_neg (by simp [full])
  have noneAfter : cs.reverse.dropWhile isBlank = cs.reverse := by
    obtain ⟨rest, c, rfl, full⟩ := ends
    rw [List.reverse_append]
    exact List.dropWhile_cons_of_neg (by simp [full])
  rw [trimBlanks, noneBefore, noneAfter, List.reverse_reverse]

theorem trimBlanks_space (cs : List Char) : trimBlanks (' ' :: cs) = trimBlanks cs := rfl

theorem trimBlanks_word {w : List Char} (h : isWord w = true) : trimBlanks w = w :=
  trimBlanks_of_full (startsFull_of_isWord h) (endsFull_of_isWord h)

/-! Splitting at a mark -/

theorem splitAtChar_ne_nil (sep : Char) (cs : List Char) : splitAtChar sep cs ≠ [] := by
  cases cs with
  | nil => exact nofun
  | cons c cs =>
    rw [splitAtChar]
    split
    case h_1 => exact nofun
    case h_2 => split <;> exact nofun

theorem splitAtChar_sep (sep : Char) (cs : List Char) :
    splitAtChar sep (sep :: cs) = [] :: splitAtChar sep cs := by
  rw [splitAtChar]
  split
  case h_1 none => exact absurd none (splitAtChar_ne_nil sep cs)
  case h_2 w ws pieces => rw [if_pos (beq_self_eq_true sep), pieces]

theorem splitAtChar_cons {sep c : Char} (h : c ≠ sep) {cs w : List Char} {ws : List (List Char)}
    (pieces : splitAtChar sep cs = w :: ws) : splitAtChar sep (c :: cs) = (c :: w) :: ws := by
  simp [splitAtChar, pieces, h]

theorem splitAtChar_of_notMem {sep : Char} {w : List Char} (h : sep ∉ w) : splitAtChar sep w = [w] := by
  induction w with
  | nil => rfl
  | cons c w ih =>
    obtain ⟨first, later⟩ := not_or.mp (List.mem_cons.not.mp h)
    exact splitAtChar_cons (Ne.symm first) (ih later)

theorem splitAtChar_append {sep : Char} {w : List Char} (h : sep ∉ w) (rest : List Char) :
    splitAtChar sep (w ++ sep :: rest) = w :: splitAtChar sep rest := by
  induction w with
  | nil => exact splitAtChar_sep sep rest
  | cons c w ih =>
    obtain ⟨first, later⟩ := not_or.mp (List.mem_cons.not.mp h)
    exact splitAtChar_cons (Ne.symm first) (ih later)

theorem comma_notMem {w : List Char} (h : isWord w = true) : ',' ∉ w := by
  intro inWord
  obtain ⟨-, noComma, -⟩ := (isNameChar_iff ',').mp (isNameChar_of_mem h ',' inWord)
  exact noComma rfl

/-- Splitting at commas and trimming gives the arguments back; all but the first have a blank before them. -/
theorem split_joinArgs {w : List Char} {ws : List (List Char)} (words : ∀ v ∈ w :: ws, isWord v = true) :
    (splitAtChar ',' (joinArgs w ws)).map trimBlanks = w :: ws ∧
    (splitAtChar ',' (' ' :: joinArgs w ws)).map trimBlanks = w :: ws := by
  have word := words w List.mem_cons_self
  have noComma := comma_notMem word
  have noCommaAfterSpace : ',' ∉ ' ' :: w := by simp [noComma]
  induction ws generalizing w with
  | nil =>
    rw [joinArgs, splitAtChar_of_notMem noComma, splitAtChar_of_notMem noCommaAfterSpace]
    simp only [List.map_cons, List.map_nil, trimBlanks_space, trimBlanks_word word, and_self]
  | cons v ws ih =>
    have laterWords : ∀ u ∈ v :: ws, isWord u = true := fun u hu => words u (List.mem_cons_of_mem w hu)
    have laterWord := laterWords v List.mem_cons_self
    obtain ⟨-, later⟩ := ih laterWords laterWord (comma_notMem laterWord) (by simp [comma_notMem laterWord])
    have spaced : ' ' :: (w ++ ',' :: ' ' :: joinArgs v ws) = (' ' :: w) ++ ',' :: ' ' :: joinArgs v ws := rfl
    rw [joinArgs, spaced, splitAtChar_append noComma, splitAtChar_append noCommaAfterSpace]
    simp only [List.map_cons, later, trimBlanks_space, trimBlanks_word word, and_self]

/-! A line is read as the record it spells -/

section

variable {op arg : List Char} {args : List (List Char)} (opWord : isWord op = true)
  (words : ∀ w ∈ arg :: args, isWord w = true)
include opWord words

theorem mem_requestLine {c : Char} (h : c ∈ requestLine op arg args) :
    isNameChar c = true ∨ c = ',' ∨ c = ' ' := by
  obtain inOp | rest := List.mem_append.mp h
  · exact .inl (isNameChar_of_mem opWord c inOp)
  · obtain rfl | inArgs := List.mem_cons.mp rest
    · exact .inr (.inr rfl)
    · exact mem_joinArgs words inArgs

theorem not_mark_of_mem_requestLine {c : Char} (h : c ∈ requestLine op arg args) : c ≠ ';' ∧ c ≠ '\n' := by
  obtain name | rfl | rfl := mem_requestLine opWord words h
  · obtain ⟨-, -, marks⟩ := (isNameChar_iff c).mp name
    exact marks
  · decide
  · decide

theorem parseLine_requestLine (ct : CodeTable) :
    parseLine ct (requestLine op arg args) = some (requestRecord ct op (arg :: args)) := by
  have noComment : (requestLine op arg args).takeWhile (· != ';') = requestLine op arg args := by
    refine List.takeWhile_eq_self_iff.mpr fun c hc => ?_
    obtain ⟨noSemicolon, -⟩ := not_mark_of_mem_requestLine opWord words hc
    exact bne_iff_ne.mpr noSemicolon
  have trimmed : trimBlanks (requestLine op arg args) = requestLine op arg args :=
    trimBlanks_of_full (startsFull_append (startsFull_of_isWord opWord) _)
      (endsFull_append op (endsFull_append [' '] (endsFull_joinArgs words)))
  have full : ∀ c ∈ op, (!isBlank c) = true := by
    intro c hc
    obtain ⟨notBlank, -⟩ := (isNameChar_iff c).mp (isNameChar_of_mem opWord c hc)
    rw [notBlank]
    rfl
  have name : (requestLine op arg args).takeWhile (fun c => !isBlank c) = op :=
    (List.takeWhile_append_of_pos full).trans (List.append_nil op)
  have argText : trimBlanks ((requestLine op arg args).dropWhile fun c => !isBlank c) = joinArgs arg args :=
    calc trimBlanks ((requestLine op arg args).dropWhile fun c => !isBlank c)
      _ = trimBlanks (' ' :: joinArgs arg args) := congrArg trimBlanks (List.dropWhile_append_of_pos full)
      _ = joinArgs arg args :=
        trimBlanks_of_full (startsFull_joinArgs (words arg List.mem_cons_self) args)
          (endsFull_joinArgs words)
  have someArg : (joinArgs arg args).isEmpty = false := by
    obtain ⟨c, rest, starts, -⟩ := startsFull_joinArgs (words arg List.mem_cons_self) args
    rw [starts]
    rfl
  obtain ⟨pieces, -⟩ := split_joinArgs words
  unfold parseLine
  rw [noComment, trimmed]
  split
  case h_1 empty =>
    obtain ⟨_, _, starts, -⟩ := startsFull_append (startsFull_of_isWord opWord) (' ' :: joinArgs arg args)
    cases starts.symm.trans empty
  case h_2 => simp [name, argText, someArg, pieces]

theorem parseProgram_requestLine (ct : CodeTable) {text : String}
    (spelled : text.toList = requestLine op arg args) :
    parseProgram ct text = [.present (.request (requestRecord ct op (arg :: args)))] := by
  have oneLine : '\n' ∉ requestLine op arg args := fun h =>
    (not_mark_of_mem_requestLine opWord words h).2 rfl
  rw [parseProgram, spelled, splitAtChar_of_notMem oneLine, List.filterMap_cons,
    parseLine_requestLine opWord words]
  rfl

end

/-! The names -/

theorem isWord_refText (m : RefMode) : isWord (refText m).toList = true := by cases m <;> decide
theorem isWord_resetText (m : ResetMode) : isWord (resetText m).toList = true := by cases m <;> decide
theorem isWord_targetText (t : PowerTarget) : isWord (targetText t).toList = true := by cases t <;> decide
theorem isWord_powerText (m : PowerMode) : isWord (powerText m).toList = true := by cases m <;> decide
theorem isWord_gainText (g : Gain) : isWord (gainText g).toList = true := by cases g <;> decide
theorem isWord_latchText (l : Latch) : isWord (latchText l).toList = true := by cases l <;> decide
theorem isWord_kindText (k : Kind) : isWord (kindText k).toList = true := by cases k <;> decide
theorem isWord_addressText (a : Address) : isWord (addressText a).toList = true := by cases a <;> decide

theorem named_refText (m : RefMode) : named refModeNames (refText m).toList = some m := by
  cases m <;> decide

theorem named_resetText (m : ResetMode) : named resetModeNames (resetText m).toList = some m := by
  cases m <;> decide

theorem named_targetText (t : PowerTarget) : named powerTargetNames (targetText t).toList = some t := by
  cases t <;> decide

theorem named_powerText (m : PowerMode) : named powerModeNames (powerText m).toList = some m := by
  cases m <;> decide

theorem named_gainText (g : Gain) : named gainNames (gainText g).toList = some g := by
  cases g <;> decide

theorem named_latchText (l : Latch) : named latchNames (latchText l).toList = some l := by
  cases l <;> decide

theorem named_kindText (k : Kind) : named kindNames (kindText k).toList = some k := by
  cases k <;> decide

theorem named_addressText (a : Address) : named addressNames (addressText a).toList = some a := by
  cases a <;> decide

/-! The requests of one, two and three arguments -/

section

variable {op : List Char} {a b c : String} (ct : CodeTable) {text : String} (opWord : isWord op = true)
include opWord

theorem parseProgram_one (ha : isWord a.toList = true) (spelled : text.toList = op ++ ' ' :: a.toList) :
    parseProgram ct text = [.present (.request (requestRecord ct op [a.toList]))] :=
  parseProgram_requestLine opWord (by simp [ha]) ct spelled

theorem parseProgram_two (ha : isWord a.toList = true) (hb : isWord b.toList = true)
    (spelled : text.toList = op ++ ' ' :: (a.toList ++ ',' :: ' ' :: b.toList)) :
    parseProgram ct text = [.present (.request (requestRecord ct op [a.toList, b.toList]))] :=
  parseProgram_requestLine opWord (by simp [ha, hb]) ct spelled

theorem parseProgram_three (ha : isWord a.toList = true) (hb : isWord b.toList = true)
    (hc : isWord c.toList = true)
    (spelled : text.toList =
      op ++ ' ' :: (a.toList ++ ',' :: ' ' :: (b.toList ++ ',' :: ' ' :: c.toList))) :
    parseProgram ct text = [.present (.request (requestRecord ct op [a.toList, b.toList, c.toList]))] :=
  parseProgram_requestLine opWord (by simp [ha, hb, hc]) ct spelled

end

theorem parseProgram_reset (m : ResetMode) :
    parseProgram codes ("reset " ++ resetText m) = [.present (encode codes (.reset m))] := by
  have name : named requestNames "reset".toList = some .reset := by decide
  rw [parseProgram_one codes (op := "reset".toList) (by decide) (isWord_resetText m) (by simp)]
  simp only [requestRecord, name, named_resetText]
  rfl

theorem parseProgram_switchReference (m : RefMode) :
    parseProgram codes ("switch_reference " ++ refText m) =
      [.present (encode codes (.switchReference m))] := by
  have name : named requestNames "switch_reference".toList = some .switchReference := by decide
  rw [parseProgram_one codes (op := "switch_reference".toList) (by decide) (isWord_refText m) (by simp)]
  simp only [requestRecord, name, named_refText]
  rfl

theorem parseProgram_switchPower (t : PowerTarget) (m : PowerMode) :
    parseProgram codes ("switch_power " ++ targetText t ++ ", " ++ powerText m) =
      [.present (encode codes (.switchPower t m))] := by
  have name : named requestNames "switch_power".toList = some .switchPower := by decide
  rw [parseProgram_two codes (op := "switch_power".toList) (by decide) (isWord_targetText t)
    (isWord_powerText m) (by simp)]
  simp only [requestRecord, name, named_targetText, named_powerText]
  rfl

theorem parseProgram_switchGain (ga gb : Gain) :
    parseProgram codes ("switch_gain " ++ gainText ga ++ ", " ++ gainText gb) =
      [.present (encode codes (.switchGain ga gb))] := by
  have name : named requestNames "switch_gain".toList = some .switchGain := by decide
  rw [parseProgram_two codes (op := "switch_gain".toList) (by decide) (isWord_gainText ga)
    (isWord_gainText gb) (by simp)]
  simp only [requestRecord, name, named_gainText]
  rfl

theorem parseProgram_switchLatchMode (la lb : Latch) :
    parseProgram codes ("switch_latch_mode " ++ latchText la ++ ", " ++ latchText lb) =
      [.present (encode codes (.switchLatchMode la lb))] := by
  have name : named requestNames "switch_latch_mode".toList = some .switchLatchMode := by decide
  rw [parseProgram_two codes (op := "switch_latch_mode".toList) (by decide) (isWord_latchText la)
    (isWord_latchText lb) (by simp)]
  simp only [requestRecord, name, named_latchText]
  rfl

theorem parseProgram_write (k : Kind) (a : Address) :
    parseProgram codes ("write " ++ kindText k ++ ", " ++ addressText a ++ ", 0xABCD") =
      [.present (encode codes (.write k a 0xABCD#16))] := by
  have name : named requestNames "write".toList = some .write := by decide
  have number : numberValue "0xABCD".toList = some 0xABCD := by decide
  rw [parseProgram_three codes (op := "write".toList) (by decide) (isWord_kindText k) (isWord_addressText a)
    (c := "0xABCD") (by decide) (by simp)]
  simp only [requestRecord, name, named_kindText, named_addressText, number]
  rfl

/-- Settles O9: a request is one line of words, and each of its names is looked up. The two texts of
`initialize`, and `pulse_latch`, which has no argument, are read by the model itself. -/
theorem textSyntaxSpellsRequests : Obligations.TextSyntaxSpellsRequests := by
  refine ⟨fun m => ?_, parseProgram_reset, parseProgram_switchReference, parseProgram_switchPower,
    parseProgram_switchGain, parseProgram_switchLatchMode, by decide, parseProgram_write⟩
  cases m with
  | external => decide
  | internal => decide

end Sys2Proof.Text
end

section
/-! PROOFS. The one form every instruction has, over every table of codes: it raises a fault before it does
anything (60_exceptions.md R205), or it does what opens it and then sends the frames of 30_encoding.md R76
in turn, each with its commit (R203, R204). What an instruction does follows from this by induction on the
frames. -/

namespace Sys2Proof.Execution

open Sys2Proof.Machine Sys2Proof.Claim Sys2Proof.Encoder Sys2Proof.ConfigRequests Sys2Proof.RawRequests

/-! Sending frames in turn -/

/-- Frames sent in turn: each is committed once it is answered `Ok`, and only then the next is sent (R203,
R204). -/
def sendAll : List (Frame × (RegFile → RegFile)) → State → Ended
  | [], s => .ok s
  | (f, commit) :: rest, s => afterFrame s f (sendAll rest (sent s f commit))

theorem settle_sendAll_ok {s : State} (h : s.nextAnswer = .ok) (f : Frame) (commit : RegFile → RegFile)
    (rest : List (Frame × (RegFile → RegFile))) :
    (sendAll ((f, commit) :: rest) s).settle = (sendAll rest (sent s f commit)).settle := by
  rw [sendAll, afterFrame_ok _ _ h]

theorem settle_sendAll_fail {s : State} (h : s.nextAnswer = .fail) (f : Frame)
    (commit : RegFile → RegFile) (rest : List (Frame × (RegFile → RegFile))) :
    (sendAll ((f, commit) :: rest) s).settle = sendFailed s f := settle_afterFrame_fail _ _ h

theorem settle_sendAll_never {s : State} (h : s.nextAnswer = .never) (f : Frame)
    (commit : RegFile → RegFile) (rest : List (Frame × (RegFile → RegFile))) :
    (sendAll ((f, commit) :: rest) s).settle = sendStuck s f := settle_afterFrame_never _ _ h

/-- What holds before every frame, and what it comes to when the frames end in one of the three ways. -/
theorem settle_sendAll {I Q : State → Prop} {xs : List (Frame × (RegFile → RegFile))}
    (next : ∀ x ∈ xs, ∀ s, I s → I (sent s x.1 x.2)) (done : ∀ s, I s → Q (completed s))
    (failed : ∀ x ∈ xs, ∀ s, I s → Q (sendFailed s x.1))
    (stuck : ∀ x ∈ xs, ∀ s, I s → s.nextAnswer = .never → Q (sendStuck s x.1)) {s : State} (start : I s) :
    Q (sendAll xs s).settle := by
  induction xs generalizing s with
  | nil => exact done s start
  | cons x rest ih =>
    have here : x ∈ x :: rest := List.mem_cons_self
    cases answer : s.nextAnswer with
    | ok =>
      rw [settle_sendAll_ok answer]
      exact ih (fun y hy => next y (List.mem_cons_of_mem x hy))
        (fun y hy => failed y (List.mem_cons_of_mem x hy))
        (fun y hy => stuck y (List.mem_cons_of_mem x hy)) (next x here s start)
    | fail => rw [settle_sendAll_fail answer]; exact failed x here s start
    | never => rw [settle_sendAll_never answer]; exact stuck x here s start answer

/-! The parts of an instruction -/

/-- The fault an instruction raises: unbound (R27), or a register that `switch_power` reads and nothing has
written (R133). -/
def faultOf (s : State) : Instr → Option Mark
  | .initDevice _ => none
  | .switchPower t m =>
    if s.bound then if (resendNeeded t m s.regs).isNone then some .unwritten else none
    else some .notBound
  | _ => if s.bound then none else some .notBound

/-- What an instruction does before it sends a frame: `initialize` binds and commits its step 1 (R130), it
and `reset` drive the lines high (R131), and `pulse_latch` pulses the latch line (R180). -/
def opening (s : State) : Instr → State
  | .initDevice _ => pinsHigh { s with bound := true, regs := onCommit s.regs }
  | .reset _ => pinsHigh s
  | .pulseLatch =>
    { s with
      line := { s.line with ldac := some .high }
      trace := s.trace ++ [.pinClear .ldac, .pinSet .ldac] }
  | _ => s

/-- The commits that go with the frames of an instruction, in their order; a frame row and `write` write no
register (R101 to R108, R181). -/
def commits : Instr → List (RegFile → RegFile)
  | .initDevice m => [resetCommit .all, refCommit m]
  | .reset m => [resetCommit m]
  | .switchReference m => [refCommit m]
  | .switchPower t m => [powerCommit t m, refCommit .internal]
  | .switchGain ga gb => [gainCommit ga gb]
  | .switchLatchMode la lb => [latchCommit la lb]
  | _ => [id]

/-- The frames of an instruction that completes from a register file, each with its commit. -/
def sends (ct : CodeTable) (r : RegFile) (i : Instr) : List (Frame × (RegFile → RegFile)) :=
  (framesDue ct r i).zip (commits i)

/-! From the pseudocode to this form -/

theorem sendFrame_commit (ct : CodeTable) (k : Kind) (a : Address) (p : Half)
    {update commit : RegFile → RegFile} (same : ∀ r, update r = commit r) (s : State)
    (rest : State → Ended) :
    (sendFrame ct k a p s).andThen (fun u => rest (u.mapRegs update)) =
      afterFrame s (frameWith ct k a p) (rest (sent s (frameWith ct k a p) commit)) := by
  obtain rfl : update = commit := funext same
  unfold afterFrame
  obtain ⟨h, send⟩ | ⟨h, send⟩ | ⟨h, send⟩ := sendFrame_cases ct k a p s
  · simp only [h]
    rw [send, bracket_eq_sent _ h]
    rfl
  · simp only [h]
    rw [send, bracket_eq_sendFailed _ h]
    rfl
  · simp only [h]
    rw [send, openBracket_eq_sendStuck _ h]
    rfl

/-- A frame on its own commits nothing. -/
theorem sendFrame_eq_sendAll (ct : CodeTable) (k : Kind) (a : Address) (p : Half) (s : State) :
    sendFrame ct k a p s = sendAll [(frameWith ct k a p, id)] s :=
  calc sendFrame ct k a p s
    _ = (sendFrame ct k a p s).andThen .ok := (andThen_ok _).symm
    _ = sendAll [(frameWith ct k a p, id)] s :=
      sendFrame_commit ct k a p (fun r => Eq.refl (id r)) s .ok

section

variable (ct : CodeTable) {s : State} (bound : s.bound = true)
include bound

theorem switchReferenceBody_eq_sendAll (m : RefMode) :
    switchReferenceBody ct m s = sendAll (sends ct s.regs (.switchReference m)) s := by
  rw [switchReferenceBody_bound bound]
  exact sendFrame_commit ct _ _ _ (setRef_setGains_eq_refCommit m) s .ok

theorem resetBody_eq_sendAll (m : ResetMode) :
    resetBody ct m s = sendAll (sends ct s.regs (.reset m)) (pinsHigh s) := by
  have pins : ((s.pinSet .rst).pinSet .ldac).selHigh = pinsHigh s := by
    simp [State.selHigh, State.pinSet, Lines.drive, pinsHigh]
  rw [resetBody_bound bound, pins]
  exact sendFrame_commit ct _ _ _ (afterReset_eq_resetCommit m) _ .ok

theorem switchGainBody_eq_sendAll (ga gb : Gain) :
    switchGainBody ct ga gb s = sendAll (sends ct s.regs (.switchGain ga gb)) s := by
  rw [switchGainBody_bound bound]
  exact sendFrame_commit ct _ _ _ (fun _ => rfl) s .ok

theorem switchLatchBody_eq_sendAll (la lb : Latch) :
    switchLatchBody ct la lb s = sendAll (sends ct s.regs (.switchLatchMode la lb)) s := by
  rw [switchLatchBody_bound bound]
  exact sendFrame_commit ct _ _ _ (fun _ => rfl) s .ok

end

/-- Step 1 of `initialize` binds, so its steps 2 and 3 run on a bound block (R130). -/
theorem initializeBody_eq_sendAll (ct : CodeTable) (m : RefMode) (s : State) :
    initializeBody ct m s = sendAll (sends ct s.regs (.initDevice m)) (opening s (.initDevice m)) := by
  rw [initializeBody_eq, resetBody_eq_sendAll ct rfl]
  change (afterFrame _ _ (.ok _)).andThen _ = _
  rw [afterFrame_andThen, Ended.ok_andThen, switchReferenceBody_eq_sendAll ct rfl]
  rfl

/-- I2: the re-send is due when both channels are then non-On and the reference is Internal (R133). -/
theorem resendNeeded_eq_some {t : PowerTarget} {m : PowerMode} {r : RegFile} {resend : Bool}
    (h : resendNeeded t m r = some resend) :
    resend = true ↔ r.ref = some .internal ∧ (powerCommit t m r).chA.pwr ≠ some .on ∧
      (powerCommit t m r).chB.pwr ≠ some .on := by
  cases ha : (powerCommit t m r).chA.pwr with
  | none => rw [resendNeeded_unwritten_a ha] at h; cases h
  | some pa =>
    cases hb : (powerCommit t m r).chB.pwr with
    | none => rw [resendNeeded_unwritten_b hb] at h; cases h
    | some pb =>
      rw [resendNeeded_written ha hb] at h
      split at h
      case isTrue bothOff =>
        obtain ⟨ref, refWritten, rfl⟩ := Option.map_eq_some_iff.mp h
        simp [resendDue, refWritten, bothOff]
      case isFalse someOn =>
        cases h
        simp only [ne_eq, Option.some.injEq]
        exact ⟨nofun, fun due => absurd due.2 someOn⟩

theorem switchPowerBody_eq_sendAll (ct : CodeTable) {s : State} (bound : s.bound = true) {t : PowerTarget}
    {m : PowerMode} (read : (resendNeeded t m s.regs).isSome = true) :
    switchPowerBody ct t m s = sendAll (sends ct s.regs (.switchPower t m)) s := by
  obtain ⟨resend, needed⟩ := Option.isSome_iff_exists.mp read
  have due := resendNeeded_eq_some needed
  cases resend with
  | false =>
    rw [switchPowerBody_once bound needed, sends, framesDue, if_neg (due.not.mp nofun)]
    exact sendFrame_commit ct _ _ _ (setPower_eq_powerCommit t m) s .ok
  | true =>
    rw [switchPowerBody_twice bound needed, sends, framesDue, if_pos (due.mp rfl)]
    refine (sendFrame_commit ct _ _ _ (setPower_eq_powerCommit t m) s _).trans ?_
    rw [switchReferenceBody_eq_sendAll ct (by exact bound)]
    rfl

theorem faultOf_unbound {s : State} (unbound : s.bound = false) {i : Instr}
    (other : ∀ m, i ≠ .initDevice m) : faultOf s i = some .notBound := by
  cases i with
  | initDevice m => exact absurd rfl (other m)
  | _ => simp [faultOf, unbound]

theorem bodyOf_of_faultOf_none {ct : CodeTable} {i : Instr} {s : State} (noFault : faultOf s i = none) :
    bodyOf ct i s = sendAll (sends ct s.regs i) (opening s i) := by
  by_cases init : ∃ m, i = .initDevice m
  case pos =>
    obtain ⟨m, rfl⟩ := init
    exact initializeBody_eq_sendAll ct m s
  case neg =>
    have other : ∀ m, i ≠ .initDevice m := fun m h => init ⟨m, h⟩
    cases bound : s.bound with
    | false => rw [faultOf_unbound bound other] at noFault; cases noFault
    | true =>
      cases i with
      | initDevice m => exact absurd rfl (other m)
      | reset m => exact resetBody_eq_sendAll ct bound m
      | switchReference m => exact switchReferenceBody_eq_sendAll ct bound m
      | switchPower t m =>
        have read : (resendNeeded t m s.regs).isSome = true := by
          simpa [faultOf, bound, Option.isSome_iff_ne_none] using noFault
        exact switchPowerBody_eq_sendAll ct bound read
      | switchGain ga gb => exact switchGainBody_eq_sendAll ct bound ga gb
      | switchLatchMode la lb => exact switchLatchBody_eq_sendAll ct bound la lb
      | pulseLatch => exact (pulseLatchBody_bound bound).trans (congrArg _ (pinClear_pinSet_ldac s))
      | write k a v => exact (writeBody_bound bound k a v).trans (sendFrame_eq_sendAll ct k a v s)
      | _ => exact (frameRow_bound bound _ _ _).trans (sendFrame_eq_sendAll ct _ _ _ s)

theorem bodyOf_of_faultOf_some {ct : CodeTable} {i : Instr} {s : State} {m : Mark}
    (fault : faultOf s i = some m) :
    bodyOf ct i s = .faulted m s ∧ (m = .notBound ∨ m = .unwritten) := by
  cases bound : s.bound with
  | false =>
    have other : ∀ m, i ≠ .initDevice m := by rintro m rfl; cases fault
    rw [faultOf_unbound bound other] at fault
    cases fault
    exact ⟨bodyOf_unbound bound other, .inl rfl⟩
  | true =>
    cases i with
    | switchPower t p =>
      simp only [faultOf, bound, if_true, Option.isNone_iff_eq_none, Option.ite_none_right_eq_some,
        Option.some.injEq] at fault
      obtain ⟨unread, rfl⟩ := fault
      exact ⟨switchPowerBody_unwritten bound unread, .inr rfl⟩
    | _ => simp [faultOf, bound] at fault

/-- Everything an instruction over a table of codes can do: raise its fault, or open, send its frames and
commit each of them. -/
theorem execWith_cases {ct : CodeTable} {i : Instr} {s t : State} (h : execWith ct i s = .next t) :
    Ready s ∧
    ((∃ m, faultOf s i = some m ∧ (m = .notBound ∨ m = .unwritten) ∧ t = marked s m) ∨
     (faultOf s i = none ∧ t = (sendAll (sends ct s.regs i) (opening s i)).settle)) := by
  obtain ⟨unmarked, unstuck, rfl⟩ := execWith_next h
  refine ⟨⟨unmarked, unstuck⟩, ?_⟩
  cases fault : faultOf s i with
  | none => exact .inr ⟨rfl, by rw [bodyOf_of_faultOf_none fault]⟩
  | some m =>
    obtain ⟨body, which⟩ := bodyOf_of_faultOf_some (ct := ct) fault
    exact .inl ⟨m, rfl, which, by rw [body]; rfl⟩

theorem exec_eq_execWith (i : Instr) (s : State) : exec i s = execWith codes i s := exec_eq_runRequest i s

/-- Everything an instruction can do, with the default codes. -/
theorem exec_cases {i : Instr} {s t : State} (h : exec i s = .next t) :
    Ready s ∧
    ((∃ m, faultOf s i = some m ∧ (m = .notBound ∨ m = .unwritten) ∧ t = marked s m) ∨
     (faultOf s i = none ∧ t = (sendAll (sends codes s.regs i) (opening s i)).settle)) :=
  execWith_cases (exec_eq_execWith i s ▸ h)

/-! What the frames and commits of an instruction are -/

theorem framesDue_subset_framesWith {ct : CodeTable} {r : RegFile} {i : Instr} :
    framesDue ct r i ⊆ framesWith ct i := by
  cases i with
  | switchPower t m =>
    rw [framesDue]
    split
    · exact List.Subset.refl _
    · exact List.take_subset 1 _
  | _ => exact List.Subset.refl _

theorem exists_frameWith_of_mem_framesWith {ct : CodeTable} {i : Instr} {f : Frame}
    (h : f ∈ framesWith ct i) : ∃ k a p, f = frameWith ct k a p := by
  cases i with
  | pulseLatch => cases h
  | initDevice m =>
    obtain rfl | rfl := List.mem_pair.mp h
    · exact ⟨_, _, _, rfl⟩
    · exact ⟨_, _, _, rfl⟩
  | switchPower t m =>
    obtain rfl | rfl := List.mem_pair.mp h
    · exact ⟨_, _, _, rfl⟩
    · exact ⟨_, _, _, rfl⟩
  | _ =>
    obtain rfl := List.mem_singleton.mp h
    exact ⟨_, _, _, rfl⟩

/-- The commits an instruction can make, one rule of the register file each (R130 to R135). -/
inductive CommitOf : Instr → (RegFile → RegFile) → Prop
  | nothing (i : Instr) : CommitOf i id
  | reset (m : ResetMode) : CommitOf (.reset m) (resetCommit m)
  | initReset (m : RefMode) : CommitOf (.initDevice m) (resetCommit .all)
  | initReference (m : RefMode) : CommitOf (.initDevice m) (refCommit m)
  | reference (m : RefMode) : CommitOf (.switchReference m) (refCommit m)
  | power (t : PowerTarget) (m : PowerMode) : CommitOf (.switchPower t m) (powerCommit t m)
  | resend (t : PowerTarget) (m : PowerMode) : CommitOf (.switchPower t m) (refCommit .internal)
  | gains (ga gb : Gain) : CommitOf (.switchGain ga gb) (gainCommit ga gb)
  | latches (la lb : Latch) : CommitOf (.switchLatchMode la lb) (latchCommit la lb)

theorem commitOf_of_mem_commits {i : Instr} {commit : RegFile → RegFile} (h : commit ∈ commits i) :
    CommitOf i commit := by
  cases i with
  | initDevice m =>
    obtain rfl | rfl := List.mem_pair.mp h
    · exact .initReset m
    · exact .initReference m
  | switchPower t m =>
    obtain rfl | rfl := List.mem_pair.mp h
    · exact .power t m
    · exact .resend t m
  | reset m => obtain rfl := List.mem_singleton.mp h; exact .reset m
  | switchReference m => obtain rfl := List.mem_singleton.mp h; exact .reference m
  | switchGain ga gb => obtain rfl := List.mem_singleton.mp h; exact .gains ga gb
  | switchLatchMode la lb => obtain rfl := List.mem_singleton.mp h; exact .latches la lb
  | _ => obtain rfl := List.mem_singleton.mp h; exact .nothing _

section

variable {ct : CodeTable} {r : RegFile} {i : Instr} {x : Frame × (RegFile → RegFile)}

theorem exists_frameWith_of_mem_sends (h : x ∈ sends ct r i) : ∃ k a p, x.1 = frameWith ct k a p :=
  exists_frameWith_of_mem_framesWith (framesDue_subset_framesWith (List.of_mem_zip h).1)

theorem commitOf_of_mem_sends (h : x ∈ sends ct r i) : CommitOf i x.2 :=
  commitOf_of_mem_commits (List.of_mem_zip h).2

end

/-! What each commit writes in a channel -/

@[simp] theorem ch_onCommit (r : RegFile) (c : Channel) :
    (onCommit r).ch c = { r.ch c with pwr := some .on, value := some 0#16 } := by cases c <;> rfl

@[simp] theorem ch_resetCommit_dacOnly (r : RegFile) (c : Channel) :
    (resetCommit .dacOnly r).ch c = { r.ch c with value := some 0#16 } := by cases c <;> rfl

@[simp] theorem ch_resetCommit_all (r : RegFile) (c : Channel) :
    (resetCommit .all r).ch c = ⟨some 0#16, (r.ch c).pwr, some .x1, some .async⟩ := by cases c <;> rfl

@[simp] theorem ch_refCommit (m : RefMode) (r : RegFile) (c : Channel) :
    (refCommit m r).ch c = { r.ch c with gain := some (defaultGain m) } := by cases c <;> rfl

@[simp] theorem ch_powerCommit (t : PowerTarget) (m : PowerMode) (r : RegFile) (c : Channel) :
    (powerCommit t m r).ch c = if targets t c then { r.ch c with pwr := some m } else r.ch c := by
  cases t <;> cases c <;> rfl

@[simp] theorem ch_gainCommit (ga gb : Gain) (r : RegFile) (c : Channel) :
    (gainCommit ga gb r).ch c = { r.ch c with gain := some (match c with | .a => ga | .b => gb) } := by
  cases c <;> rfl

@[simp] theorem ch_latchCommit (la lb : Latch) (r : RegFile) (c : Channel) :
    (latchCommit la lb r).ch c = { r.ch c with latch := some (match c with | .a => la | .b => lb) } := by
  cases c <;> rfl

/-! What the opening of an instruction leaves -/

theorem opening_ready {s : State} (ready : Ready s) (i : Instr) : Ready (opening s i) := by
  cases i <;> exact ready

theorem opening_responses (s : State) (i : Instr) : (opening s i).responses = s.responses := by
  cases i <;> rfl

/-- What an instruction emits before it sends a frame (R130, R131, R180). -/
def openingEvents : List (List Event) :=
  [[], [.pinSet .rst, .pinSet .ldac, .selHigh], [.pinClear .ldac, .pinSet .ldac]]

theorem opening_trace (s : State) (i : Instr) :
    ∃ es ∈ openingEvents, (opening s i).trace = s.trace ++ es := by
  cases i with
  | initDevice m => exact ⟨_, by decide, rfl⟩
  | reset m => exact ⟨_, by decide, rfl⟩
  | pulseLatch => exact ⟨_, by decide, rfl⟩
  | _ => exact ⟨[], by decide, (List.append_nil _).symm⟩

theorem opening_regs (s : State) (i : Instr) :
    (∀ m, i ≠ .initDevice m) ∧ (opening s i).regs = s.regs ∨
    (∃ m, i = .initDevice m) ∧ (opening s i).regs = onCommit s.regs := by
  cases i with
  | initDevice m => exact .inr ⟨⟨m, rfl⟩, rfl⟩
  | _ => exact .inl ⟨nofun, rfl⟩

/-- An instruction that raises no fault runs on a bound block: `initialize` binds it. -/
theorem bound_of_faultOf_none {s : State} {i : Instr} (noFault : faultOf s i = none) :
    (∃ m, i = .initDevice m) ∨ s.bound = true := by
  by_contra h
  obtain ⟨other, unbound⟩ := not_or.mp h
  rw [faultOf_unbound (eq_false_of_ne_true unbound) fun m hm => other ⟨m, hm⟩] at noFault
  cases noFault

theorem opening_bound {s : State} {i : Instr} (noFault : faultOf s i = none) :
    (opening s i).bound = true := by
  obtain ⟨m, rfl⟩ | bound := bound_of_faultOf_none noFault
  · rfl
  · cases i with
    | initDevice m => rfl
    | _ => exact bound

/-! What sending frames leaves -/

theorem settle_sendAll_bound (xs : List (Frame × (RegFile → RegFile))) (s : State) :
    (sendAll xs s).settle.bound = s.bound :=
  settle_sendAll (I := fun u => u.bound = s.bound) (Q := fun u => u.bound = s.bound)
    (fun _ _ _ h => h) (fun _ h => h) (fun _ _ _ h => h) (fun _ _ _ h _ => h) rfl

/-- The register file after frames holds what the start holds and each commit keeps. -/
theorem settle_sendAll_regs {R : RegFile → Prop} {xs : List (Frame × (RegFile → RegFile))} {s : State}
    (start : R s.regs) (commit : ∀ x ∈ xs, ∀ r, R r → R (x.2 r)) : R (sendAll xs s).settle.regs :=
  settle_sendAll (I := fun u => R u.regs) (Q := fun u => R u.regs)
    (fun x hx u => commit x hx u.regs) (fun _ h => h) (fun _ _ _ h => h) (fun _ _ _ h _ => h) start

/-! The three outcomes of an instruction (R200, R205, R207) -/

/-- One response was given, and the block is ready. -/
def Responded (s t : State) : Prop :=
  Ready t ∧ (t.responses = s.responses ++ [.ok] ∨ t.responses = s.responses ++ [.transportFailure])

/-- A mark was set, and no response was given. -/
def Faulted (s t : State) : Prop := t.fault ≠ none ∧ t.waiting = none ∧ t.responses = s.responses

/-- A transmit is unanswered, and no response was given. -/
def LeftWaiting (s t : State) : Prop := t.fault = none ∧ t.waiting ≠ none ∧ t.responses = s.responses

theorem settle_sendAll_outcome (xs : List (Frame × (RegFile → RegFile))) {s : State} (ready : Ready s) :
    Responded s (sendAll xs s).settle ∨ LeftWaiting s (sendAll xs s).settle := by
  refine settle_sendAll (I := fun u => Ready u ∧ u.responses = s.responses)
    (Q := fun t => Responded s t ∨ LeftWaiting s t) ?next ?done ?failed ?stuck ⟨ready, rfl⟩
  case next => exact fun _ _ _ h => h
  case done =>
    rintro u ⟨uReady, same⟩
    exact .inl ⟨uReady, .inl (by rw [← same]; rfl)⟩
  case failed =>
    rintro x - u ⟨uReady, same⟩
    exact .inl ⟨uReady, .inr (by rw [← same]; rfl)⟩
  case stuck =>
    rintro x - u ⟨⟨unmarked, -⟩, same⟩ -
    exact .inr ⟨unmarked, nofun, same⟩

theorem exec_outcome {i : Instr} {s t : State} (h : exec i s = .next t) :
    Responded s t ∨ Faulted s t ∨ LeftWaiting s t := by
  obtain ⟨ready, ⟨m, -, -, rfl⟩ | ⟨-, rfl⟩⟩ := exec_cases h
  · exact .inr (.inl ⟨nofun, ready.2, rfl⟩)
  · have outcome := settle_sendAll_outcome (sends codes s.regs i) (opening_ready ready i)
    unfold Responded LeftWaiting at outcome
    rw [opening_responses] at outcome
    exact outcome.imp_right .inr

/-! What every instruction leaves -/

/-- The caller's inputs, the position, the readings and the number of the instance. -/
def callerSide (s : State) : List Input × Nat × List (List FieldValue) × Nat :=
  (s.inputs, s.pos, s.readings, s.unit)

theorem opening_callerSide (s : State) (i : Instr) : callerSide (opening s i) = callerSide s := by
  cases i <;> rfl

theorem settle_sendAll_callerSide (xs : List (Frame × (RegFile → RegFile))) (s : State) :
    callerSide (sendAll xs s).settle = callerSide s :=
  settle_sendAll (I := fun u => callerSide u = callerSide s) (Q := fun u => callerSide u = callerSide s)
    (fun _ _ _ h => h) (fun _ h => h) (fun _ _ _ h => h) (fun _ _ _ h _ => h) rfl

theorem exec_callerSide {i : Instr} {s t : State} (h : exec i s = .next t) :
    t.inputs = s.inputs ∧ t.pos = s.pos ∧ t.readings = s.readings ∧ t.unit = s.unit := by
  suffices same : callerSide t = callerSide s by simpa [callerSide] using same
  obtain ⟨-, ⟨m, -, -, rfl⟩ | ⟨-, rfl⟩⟩ := exec_cases h
  · rfl
  · rw [settle_sendAll_callerSide, opening_callerSide]

/-- The register file after an instruction holds what it held, if step 1 of `initialize` and every commit of
the instruction keep it. -/
theorem exec_regs {R : RegFile → Prop} {i : Instr} {s t : State} (h : exec i s = .next t)
    (unchanged : R s.regs) (on : ∀ m, i = .initDevice m → R (onCommit s.regs))
    (commit : ∀ f, CommitOf i f → ∀ r, R r → R (f r)) : R t.regs := by
  obtain ⟨-, ⟨m, -, -, rfl⟩ | ⟨-, rfl⟩⟩ := exec_cases h
  · exact unchanged
  · refine settle_sendAll_regs ?_ fun x hx => commit x.2 (commitOf_of_mem_sends hx)
    obtain ⟨-, regs⟩ | ⟨⟨m, init⟩, regs⟩ := opening_regs s i
    · exact regs ▸ unchanged
    · exact regs ▸ on m init

/-- An instruction that raises no fault leaves the block bound. -/
theorem exec_bound {i : Instr} {s t : State} (h : exec i s = .next t) :
    t.bound = s.bound ∨ (∃ m, i = .initDevice m) ∧ t.bound = true := by
  obtain ⟨-, ⟨m, -, -, rfl⟩ | ⟨noFault, rfl⟩⟩ := exec_cases h
  · exact .inl rfl
  · rw [settle_sendAll_bound, opening_bound noFault]
    obtain init | bound := bound_of_faultOf_none noFault
    · exact .inr ⟨init, rfl⟩
    · exact .inl bound.symm

end Sys2Proof.Execution
end

section
/-! PROOFS. The invariants of every step (10_state.md R21 to R30, 20_memory.md R55, 30_encoding.md R77,
60_exceptions.md R207). An instruction keeps one if its opening, each of its frames and each way of ending
does. -/

namespace Sys2Proof.Invariants

open Sys2Proof.Machine Sys2Proof.Claim Sys2Proof.Execution

/-! The invariants that do not read the caller's side -/

/-- Serving the port, marking and retiring change the mark, the inputs, the position and the readings only.
-/
theorem step_keeps_of_settle {P : State → Prop}
    (aside : ∀ s mark inputs pos readings, P s →
      P { s with fault := mark, inputs := inputs, pos := pos, readings := readings })
    (instr : ∀ i s, Ready s → faultOf s i = none → P s →
      P (sendAll (sends codes s.regs i) (opening s i)).settle)
    {s t : State} (hs : P s) (h : step s = .next t) : P t := by
  refine step_keeps ?port ?mark ?retire ?instr hs h
  case port =>
    intro sel s hs
    obtain ⟨vs, -, served⟩ | ⟨-, served⟩ := servePort_cases sel s
    · exact served ▸ aside s s.fault _ s.pos _ hs
    · exact served ▸ aside s _ s.inputs s.pos s.readings hs
  case mark => exact fun m s => aside s (some m) s.inputs s.pos s.readings
  case retire =>
    intro s hs
    unfold State.retire
    split
    case isTrue => exact aside s s.fault _ _ s.readings hs
    case isFalse => exact hs
  case instr =>
    intro i s t hs h
    obtain ⟨ready, ⟨m, -, -, rfl⟩ | ⟨noFault, rfl⟩⟩ := exec_cases h
    · exact aside s (some m) s.inputs s.pos s.readings hs
    · exact instr i s ready noFault hs

theorem linesFollowTrace_pinsHigh (s : State) : LinesFollowTrace (pinsHigh s) := by
  simp [LinesFollowTrace, pinsHigh, List.foldl_append, Lines.after]

theorem linesFollowTrace_opening {s : State} (h : LinesFollowTrace s) (i : Instr) :
    LinesFollowTrace (opening s i) := by
  cases i with
  | initDevice m => exact linesFollowTrace_pinsHigh _
  | reset m => exact linesFollowTrace_pinsHigh s
  | pulseLatch =>
    unfold LinesFollowTrace at h
    simp [LinesFollowTrace, opening, List.foldl_append, Lines.after, ← h]
  | _ => exact h

/-- Settles O44: a bracket drives select alone, and each line it or an opening drives is at its last event's
level. -/
theorem stepKeepsLinesFollowingTrace : Obligations.StepKeepsLinesFollowingTrace := by
  intro s t
  refine step_keeps_of_settle (fun _ _ _ _ _ h => h) fun i s _ _ hs => ?_
  refine settle_sendAll (I := LinesFollowTrace) ?next (fun _ h => h) ?failed ?stuck
    (linesFollowTrace_opening hs i)
  case next =>
    intro x _ s h
    unfold LinesFollowTrace at h
    simp [LinesFollowTrace, sent, List.foldl_append, Lines.after, ← h]
  case failed =>
    intro x _ s h
    unfold LinesFollowTrace at h
    simp [LinesFollowTrace, sendFailed, List.foldl_append, Lines.after, ← h]
  case stuck =>
    intro x _ s h _
    unfold LinesFollowTrace at h
    simp [LinesFollowTrace, sendStuck, List.foldl_append, Lines.after, ← h]

/-- No transmit is unanswered and no bracket is open. -/
def BracketsClosed (s : State) : Prop :=
  s.waiting = none ∧ s.trace.foldl Bracket.after .outside = .outside

theorem framesInBrackets_of_closed {s : State} (h : BracketsClosed s) : FramesInBrackets s := by
  obtain ⟨unstuck, outside⟩ := h
  simp [FramesInBrackets, unstuck, outside]

theorem bracketsClosed_of_ready {s : State} (ready : Ready s) (h : FramesInBrackets s) :
    BracketsClosed s := by
  unfold FramesInBrackets at h
  rw [ready.2] at h
  exact ⟨ready.2, h⟩

/-- Events that lead from outside every bracket to outside keep the brackets closed. -/
theorem bracketsClosed_append {s u : State} (h : BracketsClosed s) {es : List Event}
    (unstuck : u.waiting = s.waiting) (trace : u.trace = s.trace ++ es)
    (closes : es.foldl Bracket.after .outside = .outside) : BracketsClosed u := by
  obtain ⟨noWait, outside⟩ := h
  exact ⟨unstuck.trans noWait, by rw [trace, List.foldl_append, outside, closes]⟩

theorem bracketsClosed_opening {s : State} (ready : Ready s) (h : FramesInBrackets s) (i : Instr) :
    BracketsClosed (opening s i) := by
  have closes : ∀ es ∈ openingEvents, es.foldl Bracket.after .outside = .outside := by decide
  obtain ⟨es, opens, trace⟩ := opening_trace s i
  have unstuck : (opening s i).waiting = s.waiting := (opening_ready ready i).2.trans ready.2.symm
  exact bracketsClosed_append (bracketsClosed_of_ready ready h) unstuck trace (closes es opens)

/-- Settles O45: an answered frame closes its bracket; an unanswered one ends the run inside it. -/
theorem stepKeepsFramesInBrackets : Obligations.StepKeepsFramesInBrackets := by
  intro s t
  refine step_keeps_of_settle (fun _ _ _ _ _ h => h) fun i s ready _ hs => ?_
  refine settle_sendAll (I := BracketsClosed) (fun x _ s h => bracketsClosed_append h rfl rfl rfl)
    (fun s h => framesInBrackets_of_closed h) (fun x _ s h => ?failed) (fun x _ s h _ => ?stuck)
    (bracketsClosed_opening ready hs i)
  case failed => exact framesInBrackets_of_closed (bracketsClosed_append h rfl rfl rfl)
  case stuck =>
    obtain ⟨-, outside⟩ := h
    simp [FramesInBrackets, sendStuck, List.foldl_append, outside, Bracket.after]

theorem frameInMap_frameWith (k : Kind) (a : Address) (p : Half) : FrameInMap (frameWith codes k a p) := by
  have top : (frameWith codes k a p).b0.extractLsb' 6 2 = 0#2 := frameTop_encodeFrame k a p
  have addr : (frameWith codes k a p).b0.extractLsb' 0 3 = codes.addr a := frameAddrCode_encodeFrame k a p
  refine ⟨top, ?_⟩
  rw [addr]
  cases a <;> decide

/-- Events whose frames are of the map. -/
theorem emittedFramesInMap_append {s u : State} (h : EmittedFramesInMap s) {es : List Event}
    (trace : u.trace = s.trace ++ es) (inMap : ∀ f r, Event.tx f r ∈ es → FrameInMap f) :
    EmittedFramesInMap u := by
  intro f r sentIt
  rw [trace] at sentIt
  obtain before | now := List.mem_append.mp sentIt
  · exact h f r before
  · exact inMap f r now

theorem emittedFramesInMap_opening {s : State} (h : EmittedFramesInMap s) (i : Instr) :
    EmittedFramesInMap (opening s i) := by
  have noFrame : ∀ es ∈ openingEvents, ∀ f r, Event.tx f r ∉ es := by simp [openingEvents]
  obtain ⟨es, opens, trace⟩ := opening_trace s i
  exact emittedFramesInMap_append h trace fun f r sentIt => absurd sentIt (noFrame es opens f r)

/-- Settles O46: every frame is composed of a listed kind and address (R70). -/
theorem stepKeepsEmittedFramesInMap : Obligations.StepKeepsEmittedFramesInMap := by
  intro s t
  refine step_keeps_of_settle (fun _ _ _ _ _ h => h) fun i s _ _ hs => ?_
  have inMap : ∀ x ∈ sends codes s.regs i, FrameInMap x.1 := by
    intro x hx
    obtain ⟨k, a, p, frame⟩ := exists_frameWith_of_mem_sends hx
    exact frame ▸ frameInMap_frameWith k a p
  refine settle_sendAll (I := EmittedFramesInMap) ?next (fun _ h => h) ?failed ?stuck
    (emittedFramesInMap_opening hs i)
  case next => exact fun x hx s h => emittedFramesInMap_append h rfl (by simpa using inMap x hx)
  case failed => exact fun x hx s h => emittedFramesInMap_append h rfl (by simpa using inMap x hx)
  case stuck => exact fun x hx s h _ => emittedFramesInMap_append h rfl (by simpa using inMap x hx)

theorem resetLineNeverCleared_append {s u : State} (h : ResetLineNeverCleared s) {es : List Event}
    (trace : u.trace = s.trace ++ es) (none : Event.pinClear .rst ∉ es) : ResetLineNeverCleared u := by
  unfold ResetLineNeverCleared
  rw [trace, List.mem_append]
  exact not_or.mpr ⟨h, none⟩

theorem resetLineNeverCleared_opening {s : State} (h : ResetLineNeverCleared s) (i : Instr) :
    ResetLineNeverCleared (opening s i) := by
  have neverClears : ∀ es ∈ openingEvents, Event.pinClear .rst ∉ es := by decide
  obtain ⟨es, opens, trace⟩ := opening_trace s i
  exact resetLineNeverCleared_append h trace (neverClears es opens)

/-- Settles O47: the one line an instruction clears is the latch line (R180). -/
theorem stepNeverClearsResetLine : Obligations.StepNeverClearsResetLine := by
  intro s t
  refine step_keeps_of_settle (fun _ _ _ _ _ h => h) fun i s _ _ hs => ?_
  refine settle_sendAll (I := ResetLineNeverCleared) ?next (fun _ h => h) ?failed ?stuck
    (resetLineNeverCleared_opening hs i)
  case next => exact fun x _ s h => resetLineNeverCleared_append h rfl (by simp)
  case failed => exact fun x _ s h => resetLineNeverCleared_append h rfl (by simp)
  case stuck => exact fun x _ s h _ => resetLineNeverCleared_append h rfl (by simp)

/-- Settles O48: an instruction that raises no fault leaves the block bound. -/
theorem stepKeepsUnboundUntouched : Obligations.StepKeepsUnboundUntouched := by
  intro s t
  refine step_keeps_of_settle (fun _ _ _ _ _ h => h) fun i s _ noFault _ unbound => ?_
  rw [settle_sendAll_bound, opening_bound noFault] at unbound
  cases unbound

/-- Both values read 0 and both channels hold a power mode (R21, R22). -/
def HoldsBaseline (r : RegFile) : Prop :=
  ∀ c, (r.ch c).value = some 0#16 ∧ ∃ m, (r.ch c).pwr = some m

theorem holdsBaseline_onCommit (r : RegFile) : HoldsBaseline (onCommit r) := fun c => by simp

theorem holdsBaseline_commit {i : Instr} {commit : RegFile → RegFile} (h : CommitOf i commit)
    {r : RegFile} (hr : HoldsBaseline r) : HoldsBaseline (commit r) := by
  intro c
  obtain ⟨value, mode, pwr⟩ := hr c
  cases h with
  | nothing => exact hr c
  | reset m => cases m <;> simp [pwr]
  | initReset m => simp [pwr]
  | power t m => by_cases target : targets t c = true <;> simp [target, value, pwr]
  | initReference m => simp [value, pwr]
  | reference m => simp [value, pwr]
  | resend t m => simp [value, pwr]
  | gains ga gb => simp [value, pwr]
  | latches la lb => simp [value, pwr]

/-- Settles O49: `initialize` writes the baseline when it binds, and every commit keeps it. -/
theorem stepKeepsBoundBaseline : Obligations.StepKeepsBoundBaseline := by
  intro s t
  refine step_keeps_of_settle (fun _ _ _ _ _ h => h) fun i s _ noFault hs _ => ?_
  refine settle_sendAll_regs (R := HoldsBaseline) ?start fun x hx r =>
    holdsBaseline_commit (commitOf_of_mem_sends hx)
  obtain ⟨other, regs⟩ | ⟨-, regs⟩ := opening_regs s i
  · have bound : s.bound = true :=
      (bound_of_faultOf_none noFault).resolve_left fun ⟨m, init⟩ => other m init
    exact regs ▸ hs bound
  · exact regs ▸ holdsBaseline_onCommit s.regs

/-- A written reference comes with both gains (R23, R25). -/
def RefWithGains (r : RegFile) : Prop := ∀ m, r.ref = some m → ∀ c, ∃ g, (r.ch c).gain = some g

theorem refWithGains_onCommit {r : RegFile} (hr : RefWithGains r) : RefWithGains (onCommit r) := by
  intro m written c
  simpa using hr m written c

theorem refWithGains_commit {i : Instr} {commit : RegFile → RegFile} (h : CommitOf i commit)
    {r : RegFile} (hr : RefWithGains r) : RefWithGains (commit r) := by
  intro m written c
  cases h with
  | nothing => exact hr m written c
  | reset mode =>
    cases mode with
    | dacOnly => simpa using hr m written c
    | all => simp
  | power t p =>
    have gain : ((powerCommit t p r).ch c).gain = (r.ch c).gain := by
      rw [ch_powerCommit]
      split <;> rfl
    rw [gain]
    exact hr m (by cases t <;> exact written) c
  | latches la lb => simpa using hr m written c
  | _ => simp

/-- Settles O50: whoever writes the reference writes both gains. -/
theorem stepKeepsRefWithGains : Obligations.StepKeepsRefWithGains := by
  intro s t
  refine step_keeps_of_settle (fun _ _ _ _ _ h => h) fun i s _ _ hs => ?_
  refine settle_sendAll_regs (R := RefWithGains) ?start fun x hx r =>
    refWithGains_commit (commitOf_of_mem_sends hx)
  obtain ⟨-, regs⟩ | ⟨-, regs⟩ := opening_regs s i
  · exact regs ▸ hs
  · exact regs ▸ refWithGains_onCommit hs

/-- Settles O51: the transmit that is never answered left select low. -/
theorem stepKeepsStuckSelect : Obligations.StepKeepsStuckSelect := by
  intro s t
  refine step_keeps_of_settle (fun _ _ _ _ _ h => h) fun i s ready _ _ => ?_
  exact settle_sendAll (I := fun u => u.waiting = none) (fun _ _ _ h => h) (fun _ h w => absurd h w)
    (fun _ _ _ h w => absurd h w) (fun _ _ _ _ _ _ => rfl) (opening_ready ready i).2

/-- Settles O52: an instruction advances the position exactly when it ends in a response. -/
theorem stepKeepsPositionCount : Obligations.StepKeepsPositionCount := by
  intro s t counts h
  obtain ⟨-, -, ⟨sel, -, -, rfl⟩ | ⟨-, -, -, -, -, rfl⟩ | ⟨-, -, i, u, -, -, run, rfl⟩⟩ := step_next h
  · obtain ⟨vs, -, served⟩ | ⟨-, served⟩ := servePort_cases sel s
    · exact served ▸ counts
    · exact served ▸ counts
  · exact counts
  · obtain ⟨-, pos, -, -⟩ := exec_callerSide run
    unfold PositionCountsResponses at counts ⊢
    obtain ⟨⟨unmarked, unstuck⟩, responded⟩ | stopped := exec_outcome run
    · have one : u.responses.length = s.responses.length + 1 := by
        obtain ok | failure := responded
        · simp [ok]
        · simp [failure]
      rw [retire_running unmarked unstuck]
      simp only [one, counts, pos]
    · have notRunning : u.running = false := by
        rw [← Bool.not_eq_true, running_iff]
        rintro ⟨unmarked, unstuck⟩
        obtain ⟨marked, -, -⟩ | ⟨-, waiting, -⟩ := stopped
        · exact marked unmarked
        · exact waiting unstuck
      have none : u.responses = s.responses := by
        obtain ⟨-, -, same⟩ | ⟨-, -, same⟩ := stopped
        · exact same
        · exact same
      rw [retire_stopped notRunning, none, counts, pos]

/-- Settles O53: at power-up nothing is written, driven, emitted or answered. -/
theorem powerUpMeetsEveryInvariant : Obligations.PowerUpMeetsEveryInvariant :=
  ⟨rfl, rfl, nofun, nofun, fun _ => ⟨rfl, rfl, rfl, rfl, rfl⟩, nofun, nofun, fun h => absurd rfl h, rfl⟩

end Sys2Proof.Invariants
end

section
/-! PROOFS. One step (00_scope.md R4, 10_state.md R29, R30, R36, 60_exceptions.md R206, R207): what it does
by the first condition that decides it. -/

namespace Sys2Proof.Stepping

open Sys2Proof.Machine Sys2Proof.Claim Sys2Proof.ConfigRequests Sys2Proof.Decoding Sys2Proof.Execution

/-! A step by its deciding condition -/

theorem step_of_marked {s : State} {m : Mark} (h : s.fault = some m) : step s = .fault (.marked m) := by
  simp only [step, serve, h]

theorem step_of_waiting {s : State} {f : Frame} (unmarked : s.fault = none) (h : s.waiting = some f) :
    step s = .fault .stuck := by simp only [step, serve, unmarked, h]

section

variable {s : State} (ready : Ready s) {rest : List Input}
include ready

theorem step_of_read {sel : ReadSel} (next : s.inputs = .read sel :: rest) :
    step s = .next (servePort sel s) := by
  obtain ⟨unmarked, unstuck⟩ := ready
  simp only [step, serve, unmarked, unstuck, next]

theorem step_of_undecodable {item : PortItem} {e : DecodeError} (next : s.inputs = .present item :: rest)
    (refused : decode codes item = .error e) : step s = .next (s.mark .refused) := by
  obtain ⟨unmarked, unstuck⟩ := ready
  simp only [step, serve, unmarked, unstuck, next, refused]

theorem step_of_decoded {item : PortItem} {i : Instr} {t : State}
    (next : s.inputs = .present item :: rest) (decoded : decode codes item = .ok i)
    (run : exec i s = .next t) : step s = .next t.retire := by
  obtain ⟨unmarked, unstuck⟩ := ready
  simp only [step, serve, unmarked, unstuck, next, decoded, run]

end

/-! The statements -/

/-- Settles O11. -/
theorem powerUpState : Obligations.PowerUpState := ⟨rfl, rfl, rfl, rfl⟩

/-- Settles O12: the instruction runs, and its input is retired if it left the block ready. -/
theorem stepRunsDecodedInstruction : Obligations.StepRunsDecodedInstruction := by
  intro s item rest i ready next decoded
  refine ⟨⟨_, exec_ready ready i⟩, fun t run => ?_⟩
  rw [step_of_decoded ready next decoded run]
  obtain ⟨inputs, pos, -, -⟩ := exec_callerSide run
  constructor
  · rintro ⟨unmarked, unstuck⟩
    rw [retire_running unmarked unstuck, inputs, pos, next]
    rfl
  · intro notReady
    rw [retire_stopped (eq_false_of_ne_true fun running => notReady ((running_iff t).mp running))]

/-- Settles O13: an item that cannot be spelled does not decode. -/
theorem unspellableRequestIsRefused : Obligations.UnspellableRequestIsRefused := by
  intro s item rest ready next unspellable
  cases decoded : decode codes item with
  | error e => exact step_of_undecodable ready next decoded
  | ok i =>
    rw [(decode_isOk_iff_wf item).mp ⟨i, decoded⟩] at unspellable
    cases unspellable

/-- Settles O14. -/
theorem markedStateTakesNoStep : Obligations.MarkedStateTakesNoStep := by
  intro s m h
  refine ⟨step_of_marked h, fun i => ?_⟩
  rw [exec_eq_runRequest]
  simp only [runRequest, h]

/-- Settles O15. -/
theorem stuckStateTakesNoStep : Obligations.StuckStateTakesNoStep := by
  intro s f unmarked h
  refine ⟨step_of_waiting unmarked h, fun i => ?_⟩
  rw [exec_eq_runRequest]
  simp only [runRequest, unmarked, h]

/-! The state read port (R36) -/

theorem readField_eq_fieldOf (r : RegFile) (f : Field) : readField r f = fieldOf r f := by
  cases f with
  | ref => rfl
  | value c => cases c <;> rfl
  | pwr c => cases c <;> rfl
  | gain c => cases c <;> rfl
  | latch c => cases c <;> rfl

theorem readFields_cons_some {r : RegFile} {f : Field} {fs : List Field} {v : FieldValue}
    {vs : List FieldValue} (head : fieldOf r f = some v) (tail : readFields r fs = some vs) :
    readFields r (f :: fs) = some (v :: vs) := by
  rw [← readField_eq_fieldOf] at head
  simp only [readFields, head, tail]

/-- A read that answers found every field written. -/
theorem written_of_readFields {r : RegFile} {fs : List Field} {vs : List FieldValue}
    (h : readFields r fs = some vs) : ∀ f ∈ fs, ∃ v, fieldOf r f = some v := by
  induction fs generalizing vs with
  | nil => exact nofun
  | cons f fs ih =>
    unfold readFields at h
    split at h
    case h_1 v vs head tail =>
      intro g hg
      obtain rfl | hg := List.mem_cons.mp hg
      · exact ⟨v, readField_eq_fieldOf r g ▸ head⟩
      · exact ih tail g hg
    case h_2 => cases h

section

variable {s : State} (ready : Ready s) {rest : List Input} {sel : ReadSel}
  (next : s.inputs = .read sel :: rest)
include ready next

theorem step_read_written {vs : List FieldValue}
    (written : readFields s.regs (ReadSel.fields sel) = some vs) :
    step s = .next { s with inputs := rest, readings := s.readings ++ [vs] } := by
  rw [step_of_read ready next, servePort, written, next]
  rfl

theorem step_read_unwritten (unwritten : readFields s.regs (ReadSel.fields sel) = none) :
    step s = .next (marked s .unwritten) := by
  rw [step_of_read ready next, servePort, unwritten]
  rfl

end

/-- Settles O16: a read of one field, then of all nine; it answers exactly when each of them is written. -/
theorem readPortReturnsFields : Obligations.ReadPortReturnsFields := by
  intro s rest ready
  constructor
  · intro f next
    split
    case h_1 v written => exact step_read_written ready next (readFields_cons_some written rfl)
    case h_2 unwritten =>
      refine step_read_unwritten ready next (Option.eq_none_iff_forall_ne_some.mpr fun vs read => ?_)
      obtain ⟨v, written⟩ := written_of_readFields read f List.mem_cons_self
      rw [unwritten] at written
      cases written
  · intro next
    split
    case h_1 ref va pa ga la vb pb gb lb =>
      refine step_read_written ready next ?_
      exact readFields_cons_some ref (readFields_cons_some va (readFields_cons_some pa
        (readFields_cons_some ga (readFields_cons_some la (readFields_cons_some vb
        (readFields_cons_some pb (readFields_cons_some gb (readFields_cons_some lb rfl))))))))
    case h_2 unwritten =>
      refine step_read_unwritten ready next (Option.eq_none_iff_forall_ne_some.mpr fun vs read => ?_)
      have written := written_of_readFields read
      obtain ⟨_, ref⟩ := written .ref (by decide)
      obtain ⟨_, va⟩ := written (.value .a) (by decide)
      obtain ⟨_, pa⟩ := written (.pwr .a) (by decide)
      obtain ⟨_, ga⟩ := written (.gain .a) (by decide)
      obtain ⟨_, la⟩ := written (.latch .a) (by decide)
      obtain ⟨_, vb⟩ := written (.value .b) (by decide)
      obtain ⟨_, pb⟩ := written (.pwr .b) (by decide)
      obtain ⟨_, gb⟩ := written (.gain .b) (by decide)
      obtain ⟨_, lb⟩ := written (.latch .b) (by decide)
      exact unwritten _ _ _ _ _ _ _ _ _ ref va pa ga la vb pb gb lb

end Sys2Proof.Stepping
end

section
/-! PROOFS. Errors and outcomes (60_exceptions.md R200 to R209), and what no instruction touches. -/

namespace Sys2Proof.Outcomes

open Sys2Proof.Machine Sys2Proof.Claim Sys2Proof.ConfigRequests Sys2Proof.RawRequests Sys2Proof.Execution
  Sys2Proof.Stepping

/-! The frame rows (R101 to R109) -/

theorem frameRow_endsByOneFrame {s : State} (ready : Ready s) (bound : s.bound = true) (k : Kind)
    (a : Address) (p : Half) : EndsByOneFrame (frameInstr k a p) s s (frameOf (kindBits k) a p) id := by
  have body : bodyOf codes (frameInstr k a p) s = frameRow codes k a p s := by cases k <;> rfl
  refine endsByOneFrame_of_bodyOf ready rfl ?_
  rw [body, frameRow_bound bound, sendFrame_eq_frameThenCommit_id]

/-- Settles O27: the eight kinds in turn. -/
theorem frameRowsSendTheirFrame : Obligations.FrameRowsSendTheirFrame := by
  intro a p s ready bound
  have row := fun k => frameRow_endsByOneFrame ready bound k a p
  exact ⟨row .plainWrite, row .softwareUpdate, row .writeUpdateAll, row .writeUpdateTarget,
    row .powerControl, row .resetControl, row .latchControl, row .referenceControl⟩

/-! Faults -/

theorem not_initDevice_of_needsBound {i : Instr} (h : needsBound i = true) (m : RefMode) :
    i ≠ .initDevice m := by
  rintro rfl
  cases h

/-- Settles O28. -/
theorem unboundBlockRaisesNotBound : Obligations.UnboundBlockRaisesNotBound := by
  intro i s ready unbound needs
  exact exec_unbound ready unbound (not_initDevice_of_needsBound needs)

/-- Settles O29: frames leave no mark, so a marked state is the instruction's own fault. -/
theorem faultComesBeforeAnyEvent : Obligations.FaultComesBeforeAnyEvent := by
  intro i s t run isMarked
  obtain ⟨ready, ⟨m, -, which, rfl⟩ | ⟨-, rfl⟩⟩ := exec_cases run
  · exact ⟨m, rfl, which⟩
  · obtain ⟨⟨unmarked, -⟩, -⟩ | ⟨unmarked, -, -⟩ :=
      settle_sendAll_outcome (sends codes s.regs i) (opening_ready ready i)
    · exact absurd unmarked isMarked
    · exact absurd unmarked isMarked

/-! The instructions of one frame (R203) -/

theorem opening_nextAnswer (s : State) (i : Instr) : (opening s i).nextAnswer = s.nextAnswer := by
  cases i <;> rfl

theorem exec_of_faultOf_none {i : Instr} {s : State} (ready : Ready s) (noFault : faultOf s i = none) :
    exec i s = .next (sendAll (sends codes s.regs i) (opening s i)).settle := by
  rw [exec_ready ready, bodyOf_of_faultOf_none noFault]

section

variable {i : Instr} (single : singleFrame i = true)
include single

theorem not_initDevice_of_singleFrame (m : RefMode) : i ≠ .initDevice m := by
  rintro rfl
  cases single

theorem sends_of_singleFrame (ct : CodeTable) (r : RegFile) : ∃ f commit, sends ct r i = [(f, commit)] := by
  cases i with
  | initDevice m => cases single
  | switchPower t m => cases single
  | pulseLatch => cases single
  | _ => exact ⟨_, _, rfl⟩

theorem faultOf_of_singleFrame {s : State} (bound : s.bound = true) : faultOf s i = none := by
  cases i with
  | switchPower t m => cases single
  | initDevice m => rfl
  | _ => exact if_pos bound

theorem opening_regs_of_singleFrame (s : State) : (opening s i).regs = s.regs := by
  obtain ⟨-, regs⟩ | ⟨⟨m, init⟩, -⟩ := opening_regs s i
  · exact regs
  · exact absurd init (not_initDevice_of_singleFrame single m)

theorem exec_singleFrame_fail {s : State} (ready : Ready s) (bound : s.bound = true)
    (answer : s.nextAnswer = .fail) : ∃ f, exec i s = .next (sendFailed (opening s i) f) := by
  obtain ⟨f, commit, one⟩ := sends_of_singleFrame single codes s.regs
  refine ⟨f, ?_⟩
  rw [exec_of_faultOf_none ready (faultOf_of_singleFrame single bound), one,
    settle_sendAll_fail ((opening_nextAnswer s i).trans answer)]

theorem exec_singleFrame_never {s : State} (ready : Ready s) (bound : s.bound = true)
    (answer : s.nextAnswer = .never) : ∃ f, exec i s = .next (sendStuck (opening s i) f) := by
  obtain ⟨f, commit, one⟩ := sends_of_singleFrame single codes s.regs
  refine ⟨f, ?_⟩
  rw [exec_of_faultOf_none ready (faultOf_of_singleFrame single bound), one,
    settle_sendAll_never ((opening_nextAnswer s i).trans answer)]

end

/-- Settles O30: nothing is committed before the one frame is answered. -/
theorem failedFrameLeavesRegistersUnchanged : Obligations.FailedFrameLeavesRegistersUnchanged := by
  intro i s ready bound single answer
  obtain ⟨f, run⟩ := exec_singleFrame_fail single ready bound answer
  refine ⟨_, run, opening_regs_of_singleFrame single s, ?_, ?_, rfl, opening_ready ready i⟩
  · exact (opening_bound (faultOf_of_singleFrame single bound)).trans bound.symm
  · exact congrArg (· ++ _) (opening_responses s i)

/-- Settles O31: the block waits inside the one frame. -/
theorem unansweredFrameIsStuck : Obligations.UnansweredFrameIsStuck := by
  intro i s ready bound single answer
  obtain ⟨f, run⟩ := exec_singleFrame_never single ready bound answer
  have unmarked : (sendStuck (opening s i) f).fault = none := (opening_ready ready i).1
  exact ⟨_, run, opening_regs_of_singleFrame single s, opening_responses s i, rfl, unmarked,
    step_of_waiting unmarked rfl⟩

/-! Outcomes, events and the caller's side -/

/-- Settles O32: on a bound block its one response is `Ok`; on an unbound block it has none. -/
theorem pulseLatchCannotFail : Obligations.PulseLatchCannotFail := by
  intro s t run
  obtain ⟨ready, -⟩ := exec_cases run
  have rule := pulseLatchRule s ready
  split at rule
  case isTrue =>
    cases run.symm.trans rule
    refine ⟨?_, ready.2, rfl, rfl⟩
    rw [List.drop_left]
    decide
  case isFalse =>
    cases run.symm.trans rule
    refine ⟨?_, ready.2, rfl, rfl⟩
    rw [marked, List.drop_length]
    exact nofun

/-- Settles O33. -/
theorem oneOutcomePerInstruction : Obligations.OneOutcomePerInstruction := fun _ _ _ => exec_outcome

/-- Settles O35. -/
theorem instructionLeavesCallerSide : Obligations.InstructionLeavesCallerSide := fun _ _ _ => exec_callerSide

end Sys2Proof.Outcomes
end

section
/-! PROOFS. The frames an instruction sends, over every table of codes (30_encoding.md R76, 20_memory.md R57,
93_implementation_defined.md U16). -/

namespace Sys2Proof.Codes

open Sys2Proof.Machine Sys2Proof.Claim Sys2Proof.Decoding Sys2Proof.Execution

/-! The frames among events -/

theorem framesSent_append (es es' : List Event) : framesSent (es ++ es') = framesSent es ++ framesSent es' :=
  List.filterMap_append

/-- Whether an event is a transmit. -/
def isTx : Event → Bool
  | .tx _ _ => true
  | _ => false

theorem length_framesSent (es : List Event) : (framesSent es).length = (es.filter isTx).length := by
  induction es with
  | nil => rfl
  | cons e es ih =>
    cases e with
    | tx f r => exact congrArg (· + 1) ih
    | _ => exact ih

/-! The frames of an instruction -/

theorem length_framesDue_le (ct : CodeTable) (r : RegFile) (i : Instr) :
    (framesDue ct r i).length ≤ (commits i).length := by
  cases i with
  | switchPower t m =>
    rw [framesDue]
    split
    · exact Nat.le_refl 2
    · exact Nat.le_succ 1
  | pulseLatch => exact Nat.zero_le 1
  | initDevice m => exact Nat.le_refl 2
  | _ => exact Nat.le_refl 1

theorem length_commits_le (i : Instr) : (commits i).length ≤ 2 := by
  cases i with
  | initDevice m => exact Nat.le_refl 2
  | switchPower t m => exact Nat.le_refl 2
  | _ => exact Nat.le_succ 1

theorem map_fst_sends (ct : CodeTable) (r : RegFile) (i : Instr) :
    (sends ct r i).map Prod.fst = framesDue ct r i := List.map_fst_zip (length_framesDue_le ct r i)

theorem framesSent_opening {es : List Event} (h : es ∈ openingEvents) : framesSent es = [] := by
  have noFrame : ∀ es ∈ openingEvents, framesSent es = [] := by decide
  exact noFrame es h

theorem opening_drawn (s : State) (i : Instr) : (opening s i).drawn = s.drawn := by cases i <;> rfl

/-- From `s` to `t` events were appended and an answer drawn for each of their frames; these frames begin
`due`, and are all of it if the response `Ok` was added. -/
def SendsOf (due : List Frame) (s t : State) : Prop :=
  ∃ es, t.trace = s.trace ++ es ∧ t.drawn = s.drawn + (framesSent es).length ∧ framesSent es <+: due ∧
    (t.responses = s.responses ++ [.ok] → framesSent es = due)

/-- The frames are sent in turn, until one is not answered `Ok`. -/
theorem settle_sendAll_sendsOf (xs : List (Frame × (RegFile → RegFile))) (s : State) :
    SendsOf (xs.map Prod.fst) s (sendAll xs s).settle := by
  induction xs generalizing s with
  | nil => exact ⟨[], (List.append_nil _).symm, rfl, List.nil_prefix, fun _ => rfl⟩
  | cons x rest ih =>
    obtain ⟨f, commit⟩ := x
    cases answer : s.nextAnswer with
    | ok =>
      rw [settle_sendAll_ok answer]
      obtain ⟨es, trace, drawn, isPrefix, complete⟩ := ih (sent s f commit)
      refine ⟨[.selLow, .tx f .ok, .selHigh] ++ es, ?_, ?_, ?_, fun responded => ?_⟩
      · rw [trace, ← List.append_assoc]
        rfl
      · rw [drawn]
        exact (Nat.add_right_comm s.drawn 1 _)
      · exact List.cons_prefix_cons.mpr ⟨rfl, isPrefix⟩
      · exact congrArg (f :: ·) (complete responded)
    | fail =>
      rw [settle_sendAll_fail answer]
      refine ⟨_, rfl, rfl, List.cons_prefix_cons.mpr ⟨rfl, List.nil_prefix⟩, fun responded => ?_⟩
      cases List.append_cancel_left responded
    | never =>
      rw [settle_sendAll_never answer]
      refine ⟨_, rfl, rfl, List.cons_prefix_cons.mpr ⟨rfl, List.nil_prefix⟩, fun responded => ?_⟩
      simp [sendStuck] at responded

theorem execWith_sendsOf {ct : CodeTable} {i : Instr} {s t : State} (h : execWith ct i s = .next t) :
    SendsOf (framesDue ct s.regs i) s t := by
  obtain ⟨-, ⟨m, -, -, rfl⟩ | ⟨-, rfl⟩⟩ := execWith_cases h
  · refine ⟨[], (List.append_nil _).symm, rfl, List.nil_prefix, fun responded => ?_⟩
    simp [marked] at responded
  · obtain ⟨opened, opens, openedTrace⟩ := opening_trace s i
    obtain ⟨es, trace, drawn, isPrefix, complete⟩ :=
      settle_sendAll_sendsOf (sends ct s.regs i) (opening s i)
    rw [map_fst_sends] at isPrefix complete
    have frames : framesSent (opened ++ es) = framesSent es := by
      rw [framesSent_append, framesSent_opening opens, List.nil_append]
    refine ⟨opened ++ es, ?_, ?_, frames ▸ isPrefix, fun responded => frames ▸ complete ?_⟩
    · rw [trace, openedTrace, List.append_assoc]
    · rw [drawn, opening_drawn, frames]
    · rw [responded, opening_responses]

/-- Settles O57. -/
theorem framesFollowTheCodeTable : Obligations.FramesFollowTheCodeTable := by
  intro ct i s t run
  obtain ⟨es, trace, -, isPrefix, complete⟩ := execWith_sendsOf run
  exact ⟨es, trace, isPrefix, complete⟩

/-- Settles O34: the opcode map gives no instruction more than two frames. -/
theorem eventsAreOnlyAppended : Obligations.EventsAreOnlyAppended := by
  intro i s t run
  obtain ⟨es, trace, drawn, isPrefix, -⟩ := execWith_sendsOf (exec_eq_execWith i s ▸ run)
  refine ⟨es, trace, length_framesSent es ▸ drawn, ?_⟩
  calc t.drawn
    _ = s.drawn + (framesSent es).length := drawn
    _ ≤ s.drawn + (framesDue codes s.regs i).length := Nat.add_le_add_left isPrefix.length_le _
    _ ≤ s.drawn + 2 :=
      Nat.add_le_add_left ((length_framesDue_le codes s.regs i).trans (length_commits_le i)) _

/-! Two tables of codes (G3, U16) -/

/-- The commits do not depend on the table. -/
theorem map_snd_sends (ct ct' : CodeTable) (r : RegFile) (i : Instr) :
    (sends ct r i).map Prod.snd = (sends ct' r i).map Prod.snd := by
  cases i with
  | switchPower t m =>
    rw [sends, sends, framesDue, framesDue]
    split <;> rfl
  | _ => rfl

theorem sameButBytes_refl (s : State) : SameButBytes s s := ⟨rfl, rfl, rfl⟩

section

variable {s t : State} (same : SameButBytes s t)
include same

theorem sameButBytes_nextAnswer : s.nextAnswer = t.nextAnswer := by
  obtain ⟨-, -, others⟩ := same
  have answer : { s with trace := [], waiting := none }.nextAnswer =
      { t with trace := [], waiting := none }.nextAnswer := congrArg State.nextAnswer others
  exact answer

/-- An update that reads nothing of the trace and the open transmit, and appends the same events but for
the bytes of their frames. -/
theorem sameButBytes_sent (f g : Frame) (commit : RegFile → RegFile) :
    SameButBytes (sent s f commit) (sent t g commit) := by
  obtain ⟨trace, waiting, others⟩ := same
  refine ⟨?_, waiting, congrArg (fun u => { sent u f commit with trace := [], waiting := none }) others⟩
  simp [sent, trace, withoutBytes]

theorem sameButBytes_sendFailed (f g : Frame) : SameButBytes (sendFailed s f) (sendFailed t g) := by
  obtain ⟨trace, waiting, others⟩ := same
  refine ⟨?_, waiting, congrArg (fun u => { sendFailed u f with trace := [], waiting := none }) others⟩
  simp [sendFailed, trace, withoutBytes]

theorem sameButBytes_sendStuck (f g : Frame) : SameButBytes (sendStuck s f) (sendStuck t g) := by
  obtain ⟨trace, -, others⟩ := same
  refine ⟨?_, rfl, congrArg (fun u => { sendStuck u f with trace := [], waiting := none }) others⟩
  simp [sendStuck, trace, withoutBytes]

theorem sameButBytes_completed : SameButBytes (completed s) (completed t) := by
  obtain ⟨trace, waiting, others⟩ := same
  exact ⟨trace, waiting, congrArg completed others⟩

end

/-- Frames with the same commits lead states that are the same but for bytes to such states. -/
theorem sameButBytes_settle_sendAll {xs ys : List (Frame × (RegFile → RegFile))}
    (sameCommits : xs.map Prod.snd = ys.map Prod.snd) {s t : State} (same : SameButBytes s t) :
    SameButBytes (sendAll xs s).settle (sendAll ys t).settle := by
  induction xs generalizing ys s t with
  | nil =>
    obtain rfl := List.map_eq_nil_iff.mp sameCommits.symm
    exact sameButBytes_completed same
  | cons x xs ih =>
    obtain ⟨y, ys, rfl, commit, restCommits⟩ := List.map_eq_cons_iff.mp sameCommits.symm
    obtain ⟨f, c⟩ := x
    obtain ⟨g, d⟩ := y
    obtain rfl : d = c := commit
    have answers := sameButBytes_nextAnswer same
    cases answer : s.nextAnswer with
    | ok =>
      rw [settle_sendAll_ok answer, settle_sendAll_ok (answers ▸ answer)]
      exact ih restCommits.symm (sameButBytes_sent same f g d)
    | fail =>
      rw [settle_sendAll_fail answer, settle_sendAll_fail (answers ▸ answer)]
      exact sameButBytes_sendFailed same f g
    | never =>
      rw [settle_sendAll_never answer, settle_sendAll_never (answers ▸ answer)]
      exact sameButBytes_sendStuck same f g

/-- Settles O58: whether an instruction faults, how it opens and what it commits do not depend on the
table. -/
theorem codesReachOnlyFrameBytes : Obligations.CodesReachOnlyFrameBytes := by
  intro ct ct' i s t run
  obtain ⟨⟨unmarked, unstuck⟩, outcome⟩ := execWith_cases run
  refine ⟨_, runRequest_running unmarked unstuck, ?_⟩
  obtain ⟨m, fault, -, rfl⟩ | ⟨noFault, rfl⟩ := outcome
  · obtain ⟨body, -⟩ := bodyOf_of_faultOf_some (ct := ct') fault
    rw [body]
    exact sameButBytes_refl _
  · rw [bodyOf_of_faultOf_none noFault]
    exact sameButBytes_settle_sendAll (map_snd_sends ct ct' s.regs i) (sameButBytes_refl _)

/-- Settles O56. -/
theorem machineTakesDefaultCodes : Obligations.MachineTakesDefaultCodes := by
  have run : execWith codes = exec := funext₂ fun i s => (exec_eq_execWith i s).symm
  refine ⟨codes_wellFormed, fun s => ⟨?_, fun i => (exec_eq_execWith i s).symm⟩⟩
  rw [stepWith, run]
  rfl

end Sys2Proof.Codes
end

section
/-! PROOFS. Several instances (10_state.md R38, 60_exceptions.md R215). -/

namespace Sys2Proof.Instances

open Sys2Proof.Machine Sys2Proof.Claim Sys2Proof.Execution

/-- A step of one instance puts that instance's next state in its place. -/
theorem stepInstance_eq_some {n : Nat} {sys sys' : System} (h : stepInstance n sys = some sys') :
    ∃ s t, sys[n]? = some s ∧ step s = .next t ∧ sys' = sys.set n t := by
  induction sys generalizing n sys' with
  | nil =>
    unfold stepInstance at h
    cases h
  | cons s rest ih =>
    cases n with
    | zero =>
      unfold stepInstance at h
      split at h
      case h_1 t run => cases h; exact ⟨s, t, rfl, run, rfl⟩
      case h_2 => cases h
      case h_3 => cases h
    | succ n =>
      obtain ⟨rest', stepped, rfl⟩ := Option.map_eq_some_iff.mp h
      obtain ⟨u, t, here, run, rfl⟩ := ih stepped
      exact ⟨u, t, here, run, rfl⟩

/-- Settles O54. -/
theorem instancesShareNothing : Obligations.InstancesShareNothing := by
  intro n sys sys' h
  obtain ⟨s, t, here, run, rfl⟩ := stepInstance_eq_some h
  have inRange : n < sys.length := (List.getElem?_eq_some_iff.mp here).1
  exact ⟨⟨s, t, here, run, List.getElem?_set_self inRange⟩, fun k other => List.getElem?_set_ne other.symm⟩

theorem step_unit {s t : State} (h : step s = .next t) : t.unit = s.unit := by
  refine step_keeps (P := fun u => u.unit = s.unit) ?port (fun _ _ h => h) ?retire ?instr rfl h
  case port =>
    intro sel u same
    obtain ⟨vs, -, served⟩ | ⟨-, served⟩ := servePort_cases sel u
    · exact served ▸ same
    · exact served ▸ same
  case retire =>
    intro u same
    obtain ⟨-, -, -, -, -, -, -, -, -, -, unit⟩ := retire_frame u
    exact unit.trans same
  case instr =>
    intro i u v same run
    obtain ⟨-, -, -, unit⟩ := exec_callerSide run
    exact unit.trans same

/-- Settles O60: a step keeps its instance's number. -/
theorem stepKeepsInstancesApart : Obligations.StepKeepsInstancesApart := by
  intro n sys sys' h
  obtain ⟨s, t, here, run, rfl⟩ := stepInstance_eq_some h
  obtain ⟨inRange, rfl⟩ := List.getElem?_eq_some_iff.mp here
  have numbers : (sys.set n t).map State.unit = sys.map State.unit := by
    have inMap : n < (sys.map State.unit).length := by rwa [List.length_map]
    rw [List.map_set, step_unit run, ← List.getElem_map State.unit (h := inMap), List.set_getElem_self]
  exact ⟨numbers, fun apart => by rwa [System.Apart, numbers]⟩

/-- Settles O59: the numbers are those of the list's places. -/
theorem instancesPowerUpApart : Obligations.InstancesPowerUpApart := by
  intro count
  refine ⟨?length, ?apart, ?each⟩
  case length => rw [System.powerUp, List.length_map, List.length_range]
  case apart =>
    have numbers : (System.powerUp count).map State.unit = List.range count := by
      rw [System.powerUp, List.map_map]
      exact List.map_id _
    rw [System.Apart, numbers]
    exact List.nodup_range
  case each =>
    intro n s here
    obtain ⟨inRange, rfl⟩ := List.getElem?_eq_some_iff.mp here
    have place : (System.powerUp count)[n] = State.powerUp n := by
      simp only [System.powerUp, List.getElem_map, List.getElem_range]
    rw [place]
    exact ⟨rfl, State.powerUp_nextAnswer n⟩

end Sys2Proof.Instances
end

section
/-! PROOFS. Who writes which register, and with what (10_state.md R21 to R25, R27, R32 to R34). The commits of
an instruction are the rules of `CommitOf`; a register that none of them writes keeps its value. -/

namespace Sys2Proof.Writers

open Sys2Proof.Machine Sys2Proof.Claim Sys2Proof.ConfigRequests Sys2Proof.Execution Sys2Proof.Invariants

/-! Commits of a single field leave the others -/

theorem ref_powerCommit (t : PowerTarget) (m : PowerMode) (r : RegFile) :
    (powerCommit t m r).ref = r.ref := by cases t <;> rfl

section

variable (t : PowerTarget) (m : PowerMode) (r : RegFile) (c : Channel)

theorem value_powerCommit : ((powerCommit t m r).ch c).value = (r.ch c).value := by
  rw [ch_powerCommit]
  split <;> rfl

theorem gain_powerCommit : ((powerCommit t m r).ch c).gain = (r.ch c).gain := by
  rw [ch_powerCommit]
  split <;> rfl

theorem latch_powerCommit : ((powerCommit t m r).ch c).latch = (r.ch c).latch := by
  rw [ch_powerCommit]
  split <;> rfl

end

theorem targets_iff (t : PowerTarget) (c : Channel) :
    targets t c = true ↔ t = .all ∨ (t = .a ∧ c = .a) ∨ (t = .b ∧ c = .b) := by
  cases t <;> cases c <;> decide

/-- A register that an instruction changes holds what one of its writes put there, if each of its commits
keeps the register or is such a write. -/
theorem exec_writes {α : Type} {get : RegFile → α} {Written : α → Prop} {i : Instr} {s t : State}
    (run : exec i s = .next t) (changed : get t.regs ≠ get s.regs)
    (on : ∀ m, i = .initDevice m → get (onCommit s.regs) = get s.regs ∨ Written (get (onCommit s.regs)))
    (commit : ∀ f, CommitOf i f → ∀ r, get (f r) = get r ∨ Written (get (f r))) :
    Written (get t.regs) := by
  have keptOrWritten : get t.regs = get s.regs ∨ Written (get t.regs) := by
    refine exec_regs (R := fun r => get r = get s.regs ∨ Written (get r)) run (.inl rfl) on ?_
    intro f hf r hr
    obtain kept | written := commit f hf r
    · exact kept ▸ hr
    · exact .inr written
  exact keptOrWritten.resolve_left changed

/-! The writers of each register -/

/-- R21: a value is written by `reset` and `initialize`, with 0. -/
def ValueWritten (i : Instr) (v : Option Half) : Prop :=
  v = some 0#16 ∧ ((∃ m, i = .reset m) ∨ ∃ m, i = .initDevice m)

/-- R22: a power mode is written by `initialize`, with On, and by `switch_power` for its targets. -/
def PowerWritten (i : Instr) (c : Channel) (p : Option PowerMode) : Prop :=
  ((∃ m, i = .initDevice m) ∧ p = some .on) ∨
  ∃ tg m, i = .switchPower tg m ∧ (tg = .all ∨ (tg = .a ∧ c = .a) ∨ (tg = .b ∧ c = .b)) ∧ p = some m

/-- R23: the five writers of a gain. -/
def GainWritten (i : Instr) (c : Channel) (g : Option Gain) : Prop :=
  (i = .reset .all ∧ g = some .x1) ∨
  (∃ m, i = .switchReference m ∧ g = some (defaultGain m)) ∨
  (∃ m, i = .initDevice m ∧ (g = some .x1 ∨ g = some (defaultGain m))) ∨
  (∃ tg m, i = .switchPower tg m ∧ g = some .x2) ∨
  (∃ ga gb, i = .switchGain ga gb ∧ g = some (match c with | .a => ga | .b => gb))

/-- R24: the three writers of a latch mode. -/
def LatchWritten (i : Instr) (c : Channel) (l : Option Latch) : Prop :=
  (i = .reset .all ∧ l = some .async) ∨
  (∃ m, i = .initDevice m ∧ l = some .async) ∨
  (∃ la lb, i = .switchLatchMode la lb ∧ l = some (match c with | .a => la | .b => lb))

/-- R25: the writers of the reference. -/
def ReferenceWritten (i : Instr) (ref : Option RefMode) : Prop :=
  (i = .reset .all ∧ ref = some .external) ∨
  (∃ m, i = .switchReference m ∧ ref = some m) ∨
  (∃ m, i = .initDevice m ∧ (ref = some .external ∨ ref = some m)) ∨
  (∃ tg m, i = .switchPower tg m ∧ ref = some .internal)

section

variable {i : Instr} {f : RegFile → RegFile} (hf : CommitOf i f) (c : Channel) (r : RegFile)
include hf

theorem value_commit : ((f r).ch c).value = (r.ch c).value ∨ ValueWritten i ((f r).ch c).value := by
  cases hf with
  | nothing => exact .inl rfl
  | reset m =>
    refine .inr ⟨?_, .inl ⟨m, rfl⟩⟩
    cases m
    · rw [ch_resetCommit_dacOnly]
    · rw [ch_resetCommit_all]
  | initReset m => exact .inr ⟨by rw [ch_resetCommit_all], .inr ⟨m, rfl⟩⟩
  | power t m => exact .inl (value_powerCommit t m r c)
  | gains ga gb => exact .inl (by rw [ch_gainCommit])
  | latches la lb => exact .inl (by rw [ch_latchCommit])
  | _ => exact .inl (by rw [ch_refCommit])

theorem pwr_commit : ((f r).ch c).pwr = (r.ch c).pwr ∨ PowerWritten i c ((f r).ch c).pwr := by
  cases hf with
  | nothing => exact .inl rfl
  | reset m =>
    cases m
    · exact .inl (by rw [ch_resetCommit_dacOnly])
    · exact .inl (by rw [ch_resetCommit_all])
  | initReset m => exact .inl (by rw [ch_resetCommit_all])
  | power t m =>
    rw [ch_powerCommit]
    split
    case isTrue target => exact .inr (.inr ⟨t, m, rfl, (targets_iff t c).mp target, rfl⟩)
    case isFalse => exact .inl rfl
  | gains ga gb => exact .inl (by rw [ch_gainCommit])
  | latches la lb => exact .inl (by rw [ch_latchCommit])
  | _ => exact .inl (by rw [ch_refCommit])

theorem gain_commit : ((f r).ch c).gain = (r.ch c).gain ∨ GainWritten i c ((f r).ch c).gain := by
  cases hf with
  | nothing => exact .inl rfl
  | reset m =>
    cases m
    · exact .inl (by rw [ch_resetCommit_dacOnly])
    · exact .inr (.inl ⟨rfl, by rw [ch_resetCommit_all]⟩)
  | initReset m => exact .inr (.inr (.inr (.inl ⟨m, rfl, .inl (by rw [ch_resetCommit_all])⟩)))
  | initReference m => exact .inr (.inr (.inr (.inl ⟨m, rfl, .inr (by rw [ch_refCommit])⟩)))
  | reference m => exact .inr (.inr (.inl ⟨m, rfl, by rw [ch_refCommit]⟩))
  | power t m => exact .inl (gain_powerCommit t m r c)
  | resend t m => exact .inr (.inr (.inr (.inr (.inl ⟨t, m, rfl, by rw [ch_refCommit]; rfl⟩))))
  | gains ga gb =>
    refine .inr (.inr (.inr (.inr (.inr ⟨ga, gb, rfl, ?_⟩))))
    cases c <;> rfl
  | latches la lb => exact .inl (by rw [ch_latchCommit])

theorem latch_commit : ((f r).ch c).latch = (r.ch c).latch ∨ LatchWritten i c ((f r).ch c).latch := by
  cases hf with
  | nothing => exact .inl rfl
  | reset m =>
    cases m
    · exact .inl (by rw [ch_resetCommit_dacOnly])
    · exact .inr (.inl ⟨rfl, by rw [ch_resetCommit_all]⟩)
  | initReset m => exact .inr (.inr (.inl ⟨m, rfl, by rw [ch_resetCommit_all]⟩))
  | power t m => exact .inl (latch_powerCommit t m r c)
  | gains ga gb => exact .inl (by rw [ch_gainCommit])
  | latches la lb =>
    refine .inr (.inr (.inr ⟨la, lb, rfl, ?_⟩))
    cases c <;> rfl
  | _ => exact .inl (by rw [ch_refCommit])

omit c in
theorem ref_commit : (f r).ref = r.ref ∨ ReferenceWritten i (f r).ref := by
  cases hf with
  | reset m =>
    cases m
    · exact .inl rfl
    · exact .inr (.inl ⟨rfl, rfl⟩)
  | initReset m => exact .inr (.inr (.inr (.inl ⟨m, rfl, .inl rfl⟩)))
  | initReference m => exact .inr (.inr (.inr (.inl ⟨m, rfl, .inr rfl⟩)))
  | reference m => exact .inr (.inr (.inl ⟨m, rfl, rfl⟩))
  | power t m => exact .inl (ref_powerCommit t m r)
  | resend t m => exact .inr (.inr (.inr (.inr ⟨t, m, rfl, rfl⟩)))
  | _ => exact .inl rfl

end

/-- Settles O36: step 1 of `initialize` and the commit of `reset` write the value. -/
theorem onlyResetsWriteValue : Obligations.OnlyResetsWriteValue := by
  intro i s t c run changed
  refine exec_writes (get := fun r => (r.ch c).value) (Written := ValueWritten i) run changed ?on
    fun f hf => value_commit hf c
  rintro m rfl
  exact .inr ⟨by rw [ch_onCommit], .inr ⟨m, rfl⟩⟩

/-- Settles O37: step 1 of `initialize` and the first commit of `switch_power` write the power mode. -/
theorem onlyInitializeAndSwitchPowerWritePower : Obligations.OnlyInitializeAndSwitchPowerWritePower := by
  intro i s t c run changed
  refine exec_writes (get := fun r => (r.ch c).pwr) (Written := PowerWritten i c) run changed ?on
    fun f hf => pwr_commit hf c
  rintro m rfl
  exact .inr (.inl ⟨⟨m, rfl⟩, by rw [ch_onCommit]⟩)

/-- Settles O38. -/
theorem gainWriters : Obligations.GainWriters := by
  intro i s t c run changed
  exact exec_writes (get := fun r => (r.ch c).gain) (Written := GainWritten i c) run changed
    (fun m _ => .inl (by rw [ch_onCommit])) fun f hf => gain_commit hf c

/-- Settles O39. -/
theorem latchWriters : Obligations.LatchWriters := by
  intro i s t c run changed
  exact exec_writes (get := fun r => (r.ch c).latch) (Written := LatchWritten i c) run changed
    (fun m _ => .inl (by rw [ch_onCommit])) fun f hf => latch_commit hf c

/-- Settles O40. -/
theorem referenceWriters : Obligations.ReferenceWriters := by
  intro i s t run changed
  exact exec_writes (get := RegFile.ref) (Written := ReferenceWritten i) run changed
    (fun _ _ => .inl rfl) fun f hf => ref_commit hf

/-- Settles O41. -/
theorem onlyInitializeBinds : Obligations.OnlyInitializeBinds := by
  constructor
  · intro s t h bound
    refine step_keeps_of_settle (P := fun u => u.bound = true) (fun _ _ _ _ _ h => h) ?_ bound h
    intro i s _ noFault _
    rw [settle_sendAll_bound, opening_bound noFault]
  · intro i s t run changed
    obtain same | ⟨init, -⟩ := exec_bound run
    · exact absurd same changed
    · exact init

/-! Runs whose frames are all answered `Ok` -/

/-- Settles O19: the two commits after step 1 write every field (R130). -/
theorem initializeEstablishesBaseline : Obligations.InitializeEstablishesBaseline := by
  intro m s ready first second
  have rule := initializeRule m s ready
  simp only [EndsByTwoFrames, first] at rule
  split at rule
  case h_1 => exact ⟨_, rule, rfl, rfl, rfl, ready.1, rfl⟩
  case h_2 answer => cases second.symm.trans answer
  case h_3 answer => cases second.symm.trans answer

/-- What `reset All` leaves in the register file (R131). -/
theorem exec_resetAll_regs {s t : State} (answer : s.nextAnswer = .ok) (bound : s.bound = true)
    (run : exec (.reset .all) s = .next t) : t.regs = resetCommit .all s.regs := by
  obtain ⟨ready, -⟩ := exec_cases run
  have rule := resetRule .all s ready
  rw [if_pos bound] at rule
  simp only [EndsByOneFrame, answer] at rule
  cases run.symm.trans rule
  rfl

/-- Settles O42: the commit of `reset All` reads the power modes only. -/
theorem resetAllForgetsTheRegisterFile : Obligations.ResetAllForgetsTheRegisterFile := by
  intro s1 s2 t1 t2 answer1 answer2 bound1 bound2 run1 run2 pwrA pwrB
  rw [exec_resetAll_regs answer1 bound1 run1, exec_resetAll_regs answer2 bound2 run2, resetCommit,
    resetCommit, pwrA, pwrB]

theorem powerFrame_ne_refFrame (t : PowerTarget) (m : PowerMode) : powerFrame t m ≠ refFrame .internal := by
  intro h
  cases congrArg Frame.b0 h

/-- Settles O43: with both frames answered `Ok`, the second is sent exactly when the re-send is due, and it
leaves the power modes as they are. -/
theorem resendExactlyAtAllOff : Obligations.ResendExactlyAtAllOff := by
  intro tg m s t bound first second run unmarked
  obtain ⟨-, -, rfl⟩ := exec_next run
  rw [bodyOf] at unmarked ⊢
  cases needed : resendNeeded tg m s.regs with
  | none =>
    rw [switchPowerBody_unwritten bound needed] at unmarked
    cases unmarked
  | some resend =>
    have due := resendNeeded_eq_some needed
    have notFirst := powerFrame_ne_refFrame tg m
    cases resend with
    | false =>
      rw [switchPowerBody_eq_once bound needed, frameThenCommit, afterFrame_ok _ _ first]
      refine (iff_of_false ?_ (due.not.mp nofun))
      simp [Ended.settle, sent, notFirst.symm]
    | true =>
      have second : (sent s (powerFrame tg m) (powerCommit tg m)).nextAnswer = .ok := second
      rw [switchPowerBody_eq_twice bound needed, afterFrame_ok _ _ first, frameThenCommit,
        afterFrame_ok _ _ second]
      refine (iff_of_true ?_ (due.mp rfl))
      simp [Ended.settle, sent]

end Sys2Proof.Writers
end
